-- ==== Sys2Proof/Word.lean ====
section
/-! DEFINITION. The bit-vector types of the 2460: what the spec adds, wraps, masks or lays out as bits. -/

namespace Sys2Proof

/-- One byte. -/
abbrev Byte := BitVec 8

/-- One beat of data, 8 bytes (00 section 4, Table 0.2). Byte `k` of the group is bits `8k+7` to `8k` (log 22). -/
abbrev Beat := BitVec 64

/-- A 40-bit byte address (00 section 6). -/
abbrev Addr := BitVec 40

/-- The contents of one 64-byte line. Byte `i` of the line is bits `8i+7` to `8i` (log 22). -/
abbrev LineData := BitVec 512

/-- A page number, 28 bits (00 section 6). -/
abbrev PageNo := BitVec 28

/-- A record's sequence; it wraps modulo 2^32 (R63). -/
abbrev Seq := BitVec 32

/-- A frame's serial, 1 to 65535; 0 names no frame (00 section 6). -/
abbrev Serial := BitVec 16

/-- A host tag, 0 to 31 (00 section 7). -/
abbrev Tag := BitVec 5

/-- A downstream tag, 0 to 15, which names a downstream slot (08 section 8.1). -/
abbrev DTag := BitVec 4

/-- The 6-byte value of a setup item, byte 0 in the most significant place (11 section 11.5). -/
abbrev ItemValue := BitVec 48

end Sys2Proof
end

