-- ==== Sys2Proof/Config.lean ====
section
/-! DEFINITION. The sizes the spec fixes, and the one value it leaves open. -/

namespace Sys2Proof.Config

/-- The value that a Capture Map entry holds at power-up, before a sweep has cleared it: unknown (R60). A FREE VALUE:
it has no body, so no proof can rest on it (log 2). The first argument is the number of the power-up, the second the
index of the entry. -/
opaque powerUpMapEntry : Nat → Nat → Serial

/-- Entries of the Transaction Table (R27). -/
@[simp] def transactions : Nat := 16

/-- Entries of the Capture Map (R40). -/
@[simp] def mapEntries : Nat := 32768

/-- Capture slots (R45). -/
@[simp] def captureSlots : Nat := 4

/-- Entries of the Staging Queue (R67). -/
@[simp] def stagingEntries : Nat := 8

/-- Frames on the frame stack (R2). -/
@[simp] def maxDepth : Nat := 8

/-- Downstream slots (R128). -/
@[simp] def downstreamSlots : Nat := 16

/-- Events in the event queue (R156). -/
@[simp] def eventQueue : Nat := 32

/-- Setup items, 0x00 to 0x13 (09 section 9.1). -/
@[simp] def setupItems : Nat := 20

/-- Guarded windows (02 section 2.1). -/
@[simp] def windows : Nat := 8

end Sys2Proof.Config
end

