-- ==== Sys2Proof/Syntax.lean ====
section
/-! DEFINITION. The commands of the 2460: one constructor of `Instr` per row of spec/opcode_table.json, and the types of
their operands. -/

namespace Sys2Proof

/-- The direction of a memory request (02 section 2.2). -/
inductive Direction where
  | read
  | write
deriving DecidableEq, Repr

/-- One beat of write data with its byte strobes; strobe bit `k` set means byte `k` of the beat is written (R23). -/
structure WriteBeat where
  data   : Beat
  strobe : Byte
deriving DecidableEq, Repr

/-- A host request at the upstream port (02 section 2.2). `beats` is the write data, empty for a read. -/
structure Request where
  tag    : Tag
  dir    : Direction
  addr   : Addr
  length : Nat
  beats  : List WriteBeat
deriving DecidableEq, Repr

/-- The four fault lines (07 section 7.1). -/
inductive FaultLine where
  | flt0
  | flt1
  | flt2
  | flt3
deriving DecidableEq, Repr

/-- What gives a hard reset (00 Table 0.2): RST_N going low, or power-up. -/
inductive ResetCause where
  | rstLow
  | powerUp
deriving DecidableEq, Repr

/-- The status of a memory response that carries no data (08 section 8.1). -/
inductive MemStatus where
  | ok
  | err
deriving DecidableEq, Repr

/-- A memory response to a passthrough request: OK with the beats read (none for a write), or ERR (08 section 8.1). -/
inductive MemResponse where
  | ok (data : List Beat)
  | err
deriving DecidableEq, Repr

/-- A memory response to a read of one whole line: OK with the 64 bytes, or ERR (R49, R95). -/
inductive LineResponse where
  | ok (data : LineData)
  | err
deriving DecidableEq, Repr

/-- The commands, one constructor per row of spec/opcode_table.json, in the table's order. -/
inductive Instr where
  /-- ACCEPT_REQUEST (R27): the host presents `r` at the upstream port. -/
  | acceptRequest (r : Request)
  /-- OPEN (R108): CREQ rises with code 0. -/
  | openFrame
  /-- COMMIT (R13): CREQ rises with code 1. -/
  | commit
  /-- ABORT (R110): CREQ rises with code 2. -/
  | abort
  /-- ABORT_ALL (R110): CREQ rises with code 3. -/
  | abortAll
  /-- CREQ_RISE_IGNORED (R104). -/
  | creqRiseIgnored
  /-- CREQ_FALL (R106, R107). -/
  | creqFall
  /-- RELEASE (R107). -/
  | release
  /-- FAULT_LINE_RISE (R116). -/
  | faultLineRise (line : FaultLine)
  /-- TAKE_FAULT (R117). -/
  | takeFault (line : FaultLine)
  /-- TREF_PULSE (R123). -/
  | trefPulse
  /-- HOLD_EXPIRED (R78). -/
  | holdExpired
  /-- DEADLINE_EXPIRY (R125). -/
  | deadlineExpiry
  /-- HARD_RESET (R149): RST_N low, or power-up. -/
  | hardReset (cause : ResetCause)
  /-- STATUS (R153). -/
  | status
  /-- EVENT_POP (R157). -/
  | eventPop
  /-- EVENT_REMOVED (R157): the last bit of the popped record has been shifted out. -/
  | eventRemoved
  /-- FRAME_READ (R153) with its operand byte. -/
  | frameRead (index : Byte)
  /-- SETUP_READ (R154) with its operand byte. -/
  | setupRead (item : Byte)
  /-- SETUP_WRITE (R154) with its seven operand bytes. -/
  | setupWrite (item : Byte) (value : ItemValue)
  /-- ENTER_SETUP (R142, R143). -/
  | enterSetup
  /-- LEAVE_SETUP (R139, R140). -/
  | leaveSetup
  /-- RECOVER (R148). -/
  | recover
  /-- FORCE_ABORT (R155) with its operand byte. -/
  | forceAbort (operand : Byte)
  /-- UNKNOWN_COMMAND (R150): the command byte received, which names no command. -/
  | unknownCommand (code : Byte)
  /-- CS_N_RISE (R150). -/
  | csNRise
  /-- BARRIER_COMPLETION (R7). -/
  | barrierCompletion
  /-- CAPTURE_GRANT (R47). -/
  | captureGrant
  /-- PASSTHROUGH_RESPONSE (R132, R133): memory answers the passthrough request in slot `tag`. -/
  | passthroughResponse (tag : DTag) (resp : MemResponse)
  /-- PRE_IMAGE_RESPONSE (R49): memory answers the pre-image read in slot `tag`. -/
  | preImageResponse (tag : DTag) (resp : LineResponse)
  /-- LOG_WRITER_START (R69). -/
  | logWriterStart
  /-- LOG_WRITE_RESPONSE (R70): memory answers the log line write in slot `tag`. -/
  | logWriteResponse (tag : DTag) (resp : MemStatus)
  /-- QUIESCE_END (R91). -/
  | quiesceEnd
  /-- UNWIND_STEP (R93). -/
  | unwindStep
  /-- UNWIND_READ_RESPONSE (R95): memory answers the unwind read in slot `tag`. -/
  | unwindReadResponse (tag : DTag) (resp : LineResponse)
  /-- WRITE_BACK_RESPONSE (R96): memory answers the write-back in slot `tag`. -/
  | writeBackResponse (tag : DTag) (resp : MemStatus)
  /-- ROLLBACK_COMPLETION (R98). -/
  | rollbackCompletion
  /-- DOWNSTREAM_GRANT (R131). -/
  | downstreamGrant
  /-- DISCARDED_RESPONSE (R128, R134, R135): a response whose tag names a STALE, dropped or FREE slot. -/
  | discardedResponse (tag : DTag)
  /-- SWEEP_CLEAR (R56). -/
  | sweepClear
  /-- CS_N_FALL (R150). -/
  | csNFall
  /-- RST_N_RISE (R149). -/
  | rstNRise
deriving DecidableEq, Repr

end Sys2Proof
end

