-- ==== Sys2Proof/Machine/State.lean ====
section
/-! DEFINITION. The state of the 2460 as plain data, block by block as Table 0.1 names the blocks, and its reset value. -/

namespace Sys2Proof.Machine

/-! ### Mode Controller (chapter 9) -/

/-- The operating state (R137). -/
inductive OpState where
  | setup
  | active
  | failed
deriving DecidableEq, Repr

/-- The log-full policy (04 section 4.6). -/
inductive LogPolicy where
  | wait
  | break
deriving DecidableEq, Repr

/-- The depth policy (01 section 1.5). -/
inductive DepthPolicy where
  | refuse
  | fold
deriving DecidableEq, Repr

/-- The Mode Controller: the operating state, the setup table (20 items of 6 bytes, R138), and those values in force
that no other block holds. -/
structure ModeController where
  state       : OpState
  setup       : List ItemValue
  logPolicy   : LogPolicy
  holdLimit   : Nat
  depthPolicy : DepthPolicy
  reservation : Bool
deriving DecidableEq, Repr

/-! ### Window Table (chapter 2) -/

/-- One guarded window (Table 2.1). -/
structure Window where
  enable    : Bool
  basePage  : PageNo
  pages     : Nat
  mapOffset : Nat
deriving DecidableEq, Repr

/-- The Window Table: eight windows and the bounds of the log region (R20, R22). -/
structure WindowTable where
  windows  : List Window
  logBase  : PageNo
  capacity : Nat
deriving DecidableEq, Repr

/-! ### Upstream Port (chapter 2) -/

/-- The access class (R24); a GUARDED request carries its window index and its map index. -/
inductive AccessClass where
  | plain
  | guarded (window : Nat) (mapIndex : Nat)
  | loghit
  | malformed
deriving DecidableEq, Repr

/-- What holds an entry in HELD (R32, R33). -/
inductive HoldCause where
  | barrier
  | rollback
deriving DecidableEq, Repr

/-- The stage of an entry in use (R26). An entry that reaches DONE is freed at that event, so DONE is not held. -/
inductive Stage where
  | waitLine
  | capture
  | held (cause : HoldCause)
  | issued
deriving DecidableEq, Repr

/-- A Transaction Table entry (Table 2.3). `data` is absent for a read and after the downstream grant of a write. -/
structure Txn where
  tag    : Tag
  dir    : Direction
  addr   : Addr
  length : Nat
  line   : Addr
  data   : Option (List WriteBeat)
  cls    : AccessClass
  age    : Nat
  stage  : Stage
deriving DecidableEq, Repr

/-- The Upstream Port: the request presented and not yet accepted (R27), the Transaction Table in order of age, and the
age that the next acceptance takes. -/
structure UpstreamPort where
  presented : Option Request
  txns      : List Txn
  nextAge   : Nat
deriving DecidableEq, Repr

/-- The upstream response codes (Table 2.4). -/
inductive UpCode where
  | ok
  | memerr
  | denied
  | formerr
deriving DecidableEq, Repr

/-- A response delivered to the host (R35): the tag, the code and, for a read answered OK, the data. -/
structure UpResponse where
  tag  : Tag
  code : UpCode
  data : List Beat
deriving DecidableEq, Repr

/-! ### Capture Unit (chapter 3) -/

/-- The Capture Map (R40). `written` lists (index, serial) pairs with rising indices. An index that is not listed reads
as 0 below `knownBelow`, and above it as the free value that power-up number `powerUp` left there. -/
structure CaptureMap where
  written    : List (Nat × Serial)
  knownBelow : Nat
  powerUp    : Nat
deriving DecidableEq, Repr

/-- The fields of a READING capture slot (Table 3.2); `write` names the entry by its tag. -/
structure CaptureSlot where
  write      : Option Tag
  seq        : Seq
  serial     : Serial
  line       : Addr
  mapIndex   : Nat
  abandoned  : Bool
deriving DecidableEq, Repr

/-- The sweep (R56). -/
structure Sweep where
  inFlight : Bool
  position : Nat
deriving DecidableEq, Repr

/-- The Capture Unit: the map, the four slots (`none` is FREE), the wait list by tag, the sweep. -/
structure CaptureUnit where
  map      : CaptureMap
  slots    : List (Option CaptureSlot)
  waitList : List Tag
  sweep    : Sweep
deriving DecidableEq, Repr

/-! ### Log Unit (chapter 4) -/

/-- What a staging entry holds besides the fields set at the grant (R62, R67): nothing while PENDING; READY of kind IMAGE
with its image, or of kind VOID. -/
inductive Content where
  | pending
  | image (data : LineData)
  | void
deriving DecidableEq, Repr

/-- A Staging Queue entry (R67, Table 4.1). -/
structure StagingEntry where
  seq      : Seq
  serial   : Serial
  window   : Nat
  mapIndex : Nat
  line     : Addr
  content  : Content
deriving DecidableEq, Repr

/-- The attempt of a record write (R70, R71). -/
inductive Attempt where
  | first
  | second
deriving DecidableEq, Repr

/-- A record write in progress (04 section 4.4): `answers` counts the responses to the attempt's two writes that have
come, and `anyErr` says whether one of them was ERR. -/
structure WriterJob where
  seq      : Seq
  attempt  : Attempt
  orphaned : Bool
  answers  : Nat
  anyErr   : Bool
deriving DecidableEq, Repr

/-- A timer that counts ticks: the hold timer (R78) and the deadline counter (R124). -/
structure TickTimer where
  running : Bool
  value   : Nat
deriving DecidableEq, Repr

/-- The Log Unit. `writer` is `none` when the log writer is idle. The count is `head - tail` (R64). -/
structure LogUnit where
  head    : Seq
  tail    : Seq
  staging : List StagingEntry
  writer  : Option WriterJob
  hold    : TickTimer
deriving DecidableEq, Repr

/-! ### Frame Stack (chapter 1) -/

/-- The status of a frame (R1). -/
inductive FrameStatus where
  | intact
  | broken
deriving DecidableEq, Repr

/-- The origin of a frame (R1). -/
inductive FrameOrigin where
  | control
  | reserved
deriving DecidableEq, Repr

/-- A frame record (Table 1.1). -/
structure Frame where
  serial : Serial
  start  : Seq
  status : FrameStatus
  origin : FrameOrigin
  folded : Bool
deriving DecidableEq, Repr

/-- The Frame Stack: the frames, bottom first (R2), the serial counter (R3), the serials held over the latest wrap (R4),
and the barrier in flight with its set, entries named by tag (R5, R6). -/
structure FrameStack where
  stack   : List Frame
  counter : Serial
  held    : List Serial
  barrier : Option (List Tag)
deriving DecidableEq, Repr

/-! ### Rollback Engine (chapter 5) -/

/-- The phase (R83). -/
inductive Phase where
  | idle
  | quiesce
  | unwind
deriving DecidableEq, Repr

/-- The pending control answer (Table 5.1). -/
inductive OwedAnswer where
  | none
  | rollback
  | noFrame
deriving DecidableEq, Repr

/-- The source of the record in hand (Table 5.1). -/
inductive RecordSource where
  | staging
  | region
deriving DecidableEq, Repr

/-- The step of the record in hand (Table 5.1). READING keeps the answers that its two reads have had so far. -/
inductive HandStep where
  | reading (header image : Option LineResponse)
  | writing
deriving DecidableEq, Repr

/-- The record in hand (Table 5.1). -/
structure Hand where
  seq    : Seq
  source : RecordSource
  step   : HandStep
deriving DecidableEq, Repr

/-- The Rollback Engine (Table 5.1); the quiesce set names entries by tag. -/
structure RollbackEngine where
  phase   : Phase
  target  : Option Nat
  owed    : OwedAnswer
  quiesce : List Tag
  hand    : Option Hand
  applied : Nat
deriving DecidableEq, Repr

/-! ### Control Port (chapter 6) -/

/-- The control requests (Table 6.1). -/
inductive CtlRequest where
  | openFrame
  | commit
  | abort
  | abortAll
deriving DecidableEq, Repr

/-- The control answers (Table 6.2). -/
inductive CtlAnswer where
  | done
  | reserved
  | busy
  | depth
  | noFrame
  | partialDone
  | failed
  | offline
deriving DecidableEq, Repr

/-- The handshake state with the request in hand (06 section 6.2). -/
inductive Handshake where
  | idle
  | working (req : CtlRequest)
  | answered (req : CtlRequest)
deriving DecidableEq, Repr

/-- The Control Port: the level of the CREQ input, the handshake, the latest answer on CRESP (R103), and the reservation
slot (R112). -/
structure ControlPort where
  creq      : Bool
  handshake : Handshake
  cresp     : CtlAnswer
  reserved  : Bool
deriving DecidableEq, Repr

/-! ### Fault Unit (chapter 7) -/

/-- The actions (07 section 7.2). -/
inductive FaultAction where
  | ignore
  | note
  | abort
  | abortAll
deriving DecidableEq, Repr

/-- The sources of a fault (R118). -/
inductive FaultSource where
  | line (l : FaultLine)
  | deadline
  | supervisor
deriving DecidableEq, Repr

/-- The latches of the four fault lines (R116). -/
structure Latches where
  flt0 : Bool
  flt1 : Bool
  flt2 : Bool
  flt3 : Bool
deriving DecidableEq, Repr

/-- The action table in force (R121). -/
structure ActionTable where
  flt0     : FaultAction
  flt1     : FaultAction
  flt2     : FaultAction
  flt3     : FaultAction
  deadline : FaultAction
deriving DecidableEq, Repr

/-- The Fault Unit: latches, actions in force, timebase, tick counter, deadline counter with the deadline in force. -/
structure FaultUnit where
  latches    : Latches
  actions    : ActionTable
  pulses     : Nat
  divisor    : Nat
  ticks      : BitVec 32
  deadline   : TickTimer
  deadlineIn : Nat
deriving DecidableEq, Repr

/-! ### Downstream Port (chapter 8) -/

/-- The party that receives a downstream response (Table 8.1). It gives the source as well. -/
inductive Origin where
  | txn (tag : Tag)
  | slot (index : Nat)
  | logHeader
  | logImage
  | unwindHeader
  | unwindImage
  | writeBack
deriving DecidableEq, Repr

/-- The four sources (Table 8.2). -/
inductive Source where
  | rollback
  | capture
  | log
  | passthrough
deriving DecidableEq, Repr

/-- A request waiting in a source queue (R129). The data of a passthrough write stays in its Transaction Table entry until
the grant; `beats` is empty for it. -/
structure Waiting where
  origin : Origin
  dir    : Direction
  addr   : Addr
  length : Nat
  beats  : List WriteBeat
deriving DecidableEq, Repr

/-- A downstream slot (Table 8.1). -/
inductive DSlot where
  | free
  | outstanding (origin : Origin) (line : Addr) (dropped : Bool)
  | stale (line : Addr)
deriving DecidableEq, Repr

/-- A request issued to the memory controller (R128). -/
structure DownRequest where
  tag    : Nat
  dir    : Direction
  addr   : Addr
  length : Nat
  beats  : List WriteBeat
deriving DecidableEq, Repr

/-- The Downstream Port: sixteen slots, and the four source queues kept as ONE list in the order handed; a queue is its
part of one source (log 15). -/
structure DownstreamPort where
  slots   : List DSlot
  waiting : List Waiting
deriving DecidableEq, Repr

/-! ### Management Link Unit (chapter 10) -/

/-- The cause of a FRAME_BROKEN event (R15, R11). -/
inductive BreakCause where
  | logFull
  | fold
  | holdExpired
deriving DecidableEq, Repr

/-- The causes of entry to FAILED (R144). -/
inductive FailCause where
  | logWrite
  | check
  | sequence
  | unwindRead
  | unwindWrite
deriving DecidableEq, Repr

/-- The cause of a RESERVATION_CANCELLED event (R9, R113). -/
inductive CancelCause where
  | sweep
  | failed
deriving DecidableEq, Repr

/-- The kind of an event with its detail (Table 10.3, Table 11.6). -/
inductive EventBody where
  | frameOpened (origin : FrameOrigin)
  | frameCommitted (merge : Bool)
  | framesFolded (absorbed : Serial)
  | frameBroken (cause : BreakCause)
  | rollbackDone (isPartial : Bool) (removed : Nat) (applied : Nat)
  | faultTaken (source : FaultSource) (action : FaultAction) (stackEmpty : Bool)
  | captureError (line : Addr)
  | logRetry (addr : Addr)
  | deviceFailed (cause : FailCause)
  | reservationTaken
  | reservationCancelled (cause : CancelCause)
  | sweepDone
  | setupLeft
  | recovered
deriving DecidableEq, Repr

/-- An event record (R156): its tick stamp, the depth after, the serial (0 when absent). -/
structure EventRecord where
  body   : EventBody
  stamp  : BitVec 32
  depth  : Nat
  serial : Serial
deriving DecidableEq, Repr

/-- An edge of SCK (R150): a rise, with the level of SDI that it samples, or a fall. -/
inductive SckEdge where
  | rise (sdi : Bool)
  | fall
deriving DecidableEq, Repr

/-- The frame in progress on the link (R150, R151): none is taken; its bytes are being received, `bytes` whole so far and
`bits` of the next one, first received first; or its command has taken effect and its response, result byte first, is being
shifted out, `sent` of its bits so far. `popping` says that the response shifts out an event record that has not yet left
the queue (R157). -/
inductive LinkFrame where
  | absent
  | receiving (bytes : List Byte) (bits : List Bool)
  | answered (response : List Byte) (popping : Bool) (sent : Nat)
deriving DecidableEq, Repr

/-- The Management Link Unit: the level of CS_N, the frame in progress, the bit that SDO shows while it is driven, the event
queue and its overrun flag. -/
structure LinkUnit where
  csN     : Bool
  frame   : LinkFrame
  sdo     : Bool
  events  : List EventRecord
  overrun : Bool
deriving DecidableEq, Repr

/-! ### The whole machine -/

/-- What has left the part at its two memory ports, oldest first: the model's own record of its outputs (log 10). -/
structure Outputs where
  responses : List UpResponse
  issued    : List DownRequest
deriving DecidableEq, Repr

/-- The state of the 2460. `rstN` is the level of RST_N; `pending` is the queue of commands that are waiting, and `wire` the
queue of SCK edges that are waiting (log 12), each first in, first out. -/
structure State where
  mode    : ModeController
  win     : WindowTable
  up      : UpstreamPort
  cap     : CaptureUnit
  log     : LogUnit
  frames  : FrameStack
  engine  : RollbackEngine
  ctl     : ControlPort
  flt     : FaultUnit
  down    : DownstreamPort
  link    : LinkUnit
  rstN    : Bool
  obs     : Outputs
  pending : List Instr
  wire    : List SckEdge
deriving DecidableEq, Repr

/-- The reasons to stop with a fault. There is none: the spec gives every event of the table an effect, so no command
raises a fault. -/
inductive Fault where
deriving DecidableEq, Repr

/-- The reasons to refuse a command. -/
inductive Refusal where
  /-- The command has no meaning yet. Raised by `exec` alone, in an arm that names the table's mnemonic; no arm does so
  in this model. Safe: the model stops where the hardware goes on. -/
  | notModelled (mnemonic : String)
deriving DecidableEq, Repr

/-! ### Reset values -/

/-- The setup table's defaults (Table 9.2, in the encodings of Table 11.7). -/
def setupDefaults : List ItemValue :=
  List.replicate 8 0x000100000000#48 ++
    [0x000000000000#48, 0x000000000000#48, 0x001000000000#48, 0x000000000000#48, 0x000000000000#48,
     0x000000000001#48, 0x000000000000#48] ++
    List.replicate 5 0x010000000000#48

/-- A window at its hard-reset default (R38). -/
def windowDefault : Window := { enable := false, basePage := 0#28, pages := 1, mapOffset := 0 }

/-- A stopped timer with value 0. -/
def timerStopped : TickTimer := { running := false, value := 0 }

/-- The Rollback Engine in IDLE (R83). -/
def engineIdle : RollbackEngine :=
  { phase := .idle, target := none, owed := .none, quiesce := [], hand := none, applied := 0 }

/-- The machine right after power-up, with RST_N high: every field at the value the spec states for a hard reset (R19, R38,
R60, R81, R102, R115, R127, R135, R149, R158). The levels of the input pins are DESIGN CHOICE (log 1). -/
def State.reset : State where
  mode :=
    { state := .setup, setup := setupDefaults, logPolicy := .wait, holdLimit := 16, depthPolicy := .refuse,
      reservation := false }
  win := { windows := List.replicate 8 windowDefault, logBase := 0#28, capacity := 0 }
  up := { presented := none, txns := [], nextAge := 0 }
  cap :=
    { map := { written := [], knownBelow := 0, powerUp := 0 }, slots := List.replicate 4 none, waitList := [],
      sweep := { inFlight := true, position := 0 } }
  log := { head := 0#32, tail := 0#32, staging := [], writer := none, hold := timerStopped }
  frames := { stack := [], counter := 0#16, held := [], barrier := none }
  engine := engineIdle
  ctl := { creq := false, handshake := .idle, cresp := .offline, reserved := false }
  flt :=
    { latches := { flt0 := false, flt1 := false, flt2 := false, flt3 := false },
      actions := { flt0 := .note, flt1 := .note, flt2 := .note, flt3 := .note, deadline := .note },
      pulses := 0, divisor := 1, ticks := 0#32, deadline := timerStopped, deadlineIn := 0 }
  down := { slots := List.replicate 16 .free, waiting := [] }
  link := { csN := true, frame := .absent, sdo := false, events := [], overrun := false }
  rstN := true
  obs := { responses := [], issued := [] }
  pending := []
  wire := []

end Sys2Proof.Machine
end

