-- ==== Sys2Proof/Machine/Formats.lean ====
section
/-! DEFINITION. The layouts of chapter 11: bytes, the undo record and its check, the codes and the answers of the
management link, event records and setup item values. -/

namespace Sys2Proof.Machine

/-! ### Bytes -/

/-- The low `n` bytes of a number, most significant byte first (11, "most significant byte first"). -/
def beBytes (n v : Nat) : List Byte :=
  (List.range n).map fun k => BitVec.ofNat 8 (v >>> (8 * (n - 1 - k)))

/-- The number that bytes hold, most significant byte first. -/
def beNat (bytes : List Byte) : Nat :=
  bytes.foldl (fun acc b => acc * 256 + b.toNat) 0

/-- The line whose byte `i` is entry `i` of the list. -/
def lineOfBytes (bytes : List Byte) : LineData :=
  bytes.foldr (fun b acc => (acc <<< 8) ||| b.setWidth 512) 0#512

/-- Byte `i` of a line. -/
def lineByte (d : LineData) (i : Nat) : Byte := d.extractLsb' (8 * i) 8

/-- The 64 bytes of a line, byte 0 first. -/
def lineBytes (d : LineData) : List Byte := (List.range 64).map (lineByte d)

/-- The 8 beats of a whole-line write, every strobe set (R70, R96). -/
def lineBeats (d : LineData) : List WriteBeat :=
  (List.range 8).map fun j => { data := d.extractLsb' (64 * j) 64, strobe := 0xFF#8 }

/-! ### Bits on the management link (R150) -/

/-- The eight bits of a byte, most significant bit first. -/
def byteBits (b : Byte) : List Bool := (List.range 8).map fun k => b.getLsbD (7 - k)

/-- The bits of bytes in the order in which they are sent and received. -/
def frameBits (bytes : List Byte) : List Bool := bytes.flatMap byteBits

/-- The byte whose bits, most significant bit first, are the list. -/
def byteOfBits (bits : List Bool) : Byte :=
  BitVec.ofNat 8 (bits.foldl (fun acc b => 2 * acc + b.toNat) 0)

/-! ### Addresses (00 section 6) -/

/-- The line that contains an address. -/
def lineOf (a : Addr) : Addr := (a >>> 6) <<< 6

/-- The page number of an address. -/
def pageOf (a : Addr) : Nat := a.toNat / 4096

/-- The address of a page's first byte, as a number. -/
def pageBase (p : PageNo) : Nat := p.toNat * 4096

/-! ### The check (R159) -/

/-- One shift of the CRC register. -/
def crcShift (r : BitVec 32) : BitVec 32 :=
  if r.getLsbD 0 then (r >>> 1) ^^^ 0xEDB88320#32 else r >>> 1

/-- One byte through the CRC register: combined into its low byte, then eight shifts. -/
def crcByte (r : BitVec 32) (b : Byte) : BitVec 32 :=
  Nat.repeat crcShift 8 (r ^^^ b.setWidth 32)

/-- The check value over bytes (R159). -/
def crc32 (bytes : List Byte) : BitVec 32 :=
  bytes.foldl crcByte 0xFFFFFFFF#32 ^^^ 0xFFFFFFFF#32

/-! ### The undo record in the log region (11 section 11.1) -/

/-- The kind byte of Table 11.1; a PENDING entry is never stored, so its value is not used. -/
def kindByte : Content → Byte
  | .image _ => 0x01#8
  | .void => 0x02#8
  | .pending => 0x00#8

/-- The image line as stored: the image of an IMAGE record, zeros for a VOID record (R62). -/
def storedImage : Content → LineData
  | .image d => d
  | .void | .pending => 0#512

/-- Bytes 0 to 59 of a record's header line (Table 11.1). -/
def headerFields (e : StagingEntry) : List Byte :=
  beBytes 4 e.seq.toNat ++ [kindByte e.content, BitVec.ofNat 8 e.window] ++ beBytes 2 e.serial.toNat ++
    beBytes 2 e.mapIndex ++ beBytes 5 e.line.toNat ++ List.replicate 45 0#8

/-- The check of a record: over bytes 0 to 59 of the header line and then the image line as stored (R159). -/
def recordCheck (e : StagingEntry) : BitVec 32 :=
  crc32 (headerFields e ++ lineBytes (storedImage e.content))

/-- The header line as stored, the check in bytes 60 to 63. -/
def headerLine (e : StagingEntry) : LineData :=
  lineOfBytes (headerFields e ++ beBytes 4 (recordCheck e).toNat)

/-- What verification of a record read back gives (R95). -/
inductive Verdict where
  | fails (cause : FailCause)
  | image (line : Addr) (data : LineData)
  | void
deriving DecidableEq, Repr

/-- The tests of R95 on a header line and an image line read back, in their order: the check, the kind, the sequence.
The line address is used with its six low bits ignored (R159). -/
def verifyRecord (expected : Seq) (header image : LineData) : Verdict :=
  let h := lineBytes header
  if crc32 (h.take 60 ++ lineBytes image) ≠ BitVec.ofNat 32 (beNat (h.drop 60)) then .fails .check
  else if lineByte header 4 ≠ 0x01#8 ∧ lineByte header 4 ≠ 0x02#8 then .fails .check
  else if BitVec.ofNat 32 (beNat (h.take 4)) ≠ expected then .fails .sequence
  else if lineByte header 4 = 0x02#8 then .void
  else .image (lineOf (BitVec.ofNat 40 (beNat ((h.drop 10).take 5)))) image

/-! ### Management link codes (11 section 11.3) -/

/-- The operand bytes that follow a command byte (Table 10.1, Table 11.2); `none` for a byte that names no command. -/
def operandCount (code : Byte) : Option Nat :=
  match code.toNat with
  | 0x01 => some 0
  | 0x02 => some 0
  | 0x03 => some 1
  | 0x04 => some 1
  | 0x05 => some 7
  | 0x06 => some 0
  | 0x07 => some 0
  | 0x08 => some 0
  | 0x09 => some 1
  | _ => none

/-- The results of a link command (Table 11.3). -/
inductive LinkResult where
  | ack
  | wrongState
  | badItem
  | badValue
  | busy
  | empty
  | invalidSetup
deriving DecidableEq, Repr

/-- The result codes of Table 11.3. -/
def LinkResult.code : LinkResult → Byte
  | .ack => 0x00#8
  | .wrongState => 0x01#8
  | .badItem => 0x02#8
  | .badValue => 0x03#8
  | .busy => 0x04#8
  | .empty => 0x05#8
  | .invalidSetup => 0x06#8

/-- The details of INVALID_SETUP (R139). -/
inductive SetupDetail where
  | noWindow
  | range
  | overlap
  | footprint
  | logSize
  | logOverlap
deriving DecidableEq, Repr

/-- The LEAVE_SETUP detail codes of Table 11.3. -/
def SetupDetail.code : SetupDetail → Byte
  | .noWindow => 0x01#8
  | .range => 0x02#8
  | .overlap => 0x03#8
  | .footprint => 0x04#8
  | .logSize => 0x05#8
  | .logOverlap => 0x06#8

/-- CRESP[2:0] for each control answer (Table 6.2). -/
def CtlAnswer.code : CtlAnswer → BitVec 3
  | .done => 0#3
  | .reserved => 1#3
  | .busy => 2#3
  | .depth => 3#3
  | .noFrame => 4#3
  | .partialDone => 5#3
  | .failed => 6#3
  | .offline => 7#3

/-- CCODE[1:0] for each control request (Table 6.1). -/
def CtlRequest.code : CtlRequest → BitVec 2
  | .openFrame => 0#2
  | .commit => 1#2
  | .abort => 2#2
  | .abortAll => 3#2

/-- The operating state byte of STATUS (Table 11.4). -/
def OpState.code : OpState → Byte
  | .setup => 0#8
  | .active => 1#8
  | .failed => 2#8

/-- The rollback phase field of STATUS (Table 11.4). -/
def Phase.code : Phase → Nat
  | .idle => 0
  | .quiesce => 1
  | .unwind => 2

/-- The origin byte of FRAME_READ and FRAME_OPENED. -/
def FrameOrigin.code : FrameOrigin → Byte
  | .control => 0#8
  | .reserved => 1#8

/-- FRAME_READ data, 9 bytes (Table 11.5). -/
def Frame.bytes (f : Frame) : List Byte :=
  beBytes 2 f.serial.toNat ++ beBytes 4 f.start.toNat ++
    [match f.status with
      | .intact => 0#8
      | .broken => 1#8,
     f.origin.code,
     if f.folded then 1#8 else 0#8]

/-! ### Event records (11 section 11.4) -/

/-- The kind codes of Table 11.6. -/
def EventBody.code : EventBody → Byte
  | .frameOpened _ => 0x01#8
  | .frameCommitted _ => 0x02#8
  | .framesFolded _ => 0x03#8
  | .frameBroken _ => 0x04#8
  | .rollbackDone _ _ _ => 0x05#8
  | .faultTaken _ _ _ => 0x06#8
  | .captureError _ => 0x07#8
  | .logRetry _ => 0x08#8
  | .deviceFailed _ => 0x09#8
  | .reservationTaken => 0x0A#8
  | .reservationCancelled _ => 0x0B#8
  | .sweepDone => 0x0C#8
  | .setupLeft => 0x0D#8
  | .recovered => 0x0E#8

/-- The source byte of FAULT_TAKEN (Table 11.6). -/
def FaultSource.code : FaultSource → Byte
  | .line .flt0 => 0#8
  | .line .flt1 => 1#8
  | .line .flt2 => 2#8
  | .line .flt3 => 3#8
  | .deadline => 4#8
  | .supervisor => 5#8

/-- The action codes of Table 11.7, which FAULT_TAKEN uses too (Table 11.6). -/
def FaultAction.code : FaultAction → Byte
  | .ignore => 0#8
  | .note => 1#8
  | .abort => 2#8
  | .abortAll => 3#8

/-- The cause byte of FRAME_BROKEN (Table 11.6). -/
def BreakCause.code : BreakCause → Byte
  | .logFull => 0#8
  | .fold => 1#8
  | .holdExpired => 2#8

/-- The cause byte of DEVICE_FAILED (Table 11.6). -/
def FailCause.code : FailCause → Byte
  | .logWrite => 0#8
  | .check => 1#8
  | .sequence => 2#8
  | .unwindRead => 3#8
  | .unwindWrite => 4#8

/-- The cause byte of RESERVATION_CANCELLED (Table 11.6). -/
def CancelCause.code : CancelCause → Byte
  | .sweep => 1#8
  | .failed => 2#8

/-- The detail bytes that Table 11.6 names, from byte 8 on. -/
def EventBody.detail : EventBody → List Byte
  | .frameOpened o => [o.code]
  | .frameCommitted merge => [if merge then 1#8 else 0#8]
  | .framesFolded absorbed => beBytes 2 absorbed.toNat
  | .frameBroken cause => [cause.code]
  | .rollbackDone isPartial removed applied =>
      [if isPartial then 5#8 else 0#8, BitVec.ofNat 8 removed] ++ beBytes 3 applied
  | .faultTaken source action stackEmpty => [source.code, action.code, if stackEmpty then 1#8 else 0#8]
  | .captureError line => beBytes 5 line.toNat
  | .logRetry addr => beBytes 5 addr.toNat
  | .deviceFailed cause => [cause.code]
  | .reservationTaken => []
  | .reservationCancelled cause => [cause.code]
  | .sweepDone => []
  | .setupLeft => []
  | .recovered => []

/-- An event record, 13 bytes; the detail bytes not named are 0 (11, "a byte that a table does not name is 0"). -/
def EventRecord.bytes (e : EventRecord) : List Byte :=
  [e.body.code] ++ beBytes 4 e.stamp.toNat ++ [BitVec.ofNat 8 e.depth] ++ beBytes 2 e.serial.toNat ++
    (e.body.detail ++ List.replicate 5 0#8).take 5

/-! ### Setup item values (11 section 11.5) -/

/-- Byte `k` of an item's value, byte 0 first sent. -/
def itemByte (v : ItemValue) (k : Nat) : Byte := v.extractLsb' (8 * (5 - k)) 8

/-- Bytes 0 to 1 of an item's value. -/
def itemHigh (v : ItemValue) : BitVec 16 := v.extractLsb' 32 16

/-- Bytes 2 to 5 of an item's value, a 32-bit number. -/
def itemLow (v : ItemValue) : BitVec 32 := v.extractLsb' 0 32

/-- The six bytes of an item's value, as SETUP_READ returns them (R160). -/
def itemBytes (v : ItemValue) : List Byte := (List.range 6).map (itemByte v)

/-- The tests of R160 on a window item: bits 14:10 are 0, pages from 1 to 512, base page below 2^28. -/
def windowInRange (v : ItemValue) : Bool :=
  (itemHigh v).extractLsb' 10 5 == 0#5 && decide (1 ≤ ((itemHigh v).extractLsb' 0 10).toNat) &&
    decide (((itemHigh v).extractLsb' 0 10).toNat ≤ 512) && decide ((itemLow v).toNat < 2 ^ 28)

/-- An item whose only field is a number in bytes 2 to 5, from `lo` to `hi`. -/
def numberInRange (lo hi : Nat) (v : ItemValue) : Bool :=
  itemHigh v == 0#16 && decide (lo ≤ (itemLow v).toNat) && decide ((itemLow v).toNat ≤ hi)

/-- An item whose only field is a code in byte 0, from 0 to `hi`. -/
def codeInRange (hi : Nat) (v : ItemValue) : Bool :=
  decide ((itemByte v 0).toNat ≤ hi) && itemByte v 1 == 0#8 && itemLow v == 0#32

/-- Item 0x0A: a policy code in byte 0, a hold limit from 1 to 255 in byte 1. -/
def policyInRange (v : ItemValue) : Bool :=
  decide ((itemByte v 0).toNat ≤ 1) && decide (1 ≤ (itemByte v 1).toNat) && itemLow v == 0#32

/-- The tests of R160 on the value of setup item `n` (Table 11.7). -/
def itemInRange (n : Nat) (v : ItemValue) : Bool :=
  if n < 8 then windowInRange v
  else
    match n with
    | 0x08 => numberInRange 0 (2 ^ 28 - 1) v
    | 0x09 => numberInRange 0 65536 v
    | 0x0A => policyInRange v
    | 0x0B => codeInRange 1 v
    | 0x0C => codeInRange 1 v
    | 0x0D => numberInRange 1 4096 v
    | 0x0E => numberInRange 0 65535 v
    | 0x0F => codeInRange 3 v
    | 0x10 => codeInRange 3 v
    | 0x11 => codeInRange 3 v
    | 0x12 => codeInRange 3 v
    | 0x13 => codeInRange 3 v
    | _ => false

/-- Item `n` of the setup table. -/
def setupItem (setup : List ItemValue) (n : Nat) : ItemValue := setup.getD n 0#48

/-- The window that item `n` describes, before its map offset is computed (Table 11.7). -/
def windowOfItem (v : ItemValue) : Window :=
  { enable := (itemHigh v).getLsbD 15, basePage := (itemLow v).setWidth 28,
    pages := ((itemHigh v).extractLsb' 0 10).toNat, mapOffset := 0 }

/-- The action that an item's byte 0 codes (Table 11.7). -/
def actionOfItem (v : ItemValue) : FaultAction :=
  match (itemByte v 0).toNat with
  | 0 => .ignore
  | 1 => .note
  | 2 => .abort
  | _ => .abortAll

/-- The log base page that the setup table holds (item 0x08). -/
def setupLogBase (setup : List ItemValue) : PageNo := (itemLow (setupItem setup 0x08)).setWidth 28

/-- The log capacity that the setup table holds (item 0x09). -/
def setupCapacity (setup : List ItemValue) : Nat := (itemLow (setupItem setup 0x09)).toNat

/-- The log-full policy that the setup table holds (item 0x0A, byte 0). -/
def setupLogPolicy (setup : List ItemValue) : LogPolicy :=
  if itemByte (setupItem setup 0x0A) 0 = 0#8 then .wait else .break

/-- The hold limit that the setup table holds (item 0x0A, byte 1). -/
def setupHoldLimit (setup : List ItemValue) : Nat := (itemByte (setupItem setup 0x0A) 1).toNat

/-- The depth policy that the setup table holds (item 0x0B). -/
def setupDepthPolicy (setup : List ItemValue) : DepthPolicy :=
  if itemByte (setupItem setup 0x0B) 0 = 0#8 then .refuse else .fold

/-- The reservation setting that the setup table holds (item 0x0C). -/
def setupReservation (setup : List ItemValue) : Bool := itemByte (setupItem setup 0x0C) 0 != 0#8

/-- The divisor that the setup table holds (item 0x0D). -/
def setupDivisor (setup : List ItemValue) : Nat := (itemLow (setupItem setup 0x0D)).toNat

/-- The deadline that the setup table holds (item 0x0E). -/
def setupDeadline (setup : List ItemValue) : Nat := (itemLow (setupItem setup 0x0E)).toNat

/-- The action table that the setup table holds (items 0x0F to 0x13). -/
def setupActions (setup : List ItemValue) : ActionTable :=
  { flt0 := actionOfItem (setupItem setup 0x0F), flt1 := actionOfItem (setupItem setup 0x10),
    flt2 := actionOfItem (setupItem setup 0x11), flt3 := actionOfItem (setupItem setup 0x12),
    deadline := actionOfItem (setupItem setup 0x13) }

end Sys2Proof.Machine
end

