-- ==== Sys2Proof/Decode.lean ====
section
/-! DEFINITION. The words that spell commands. No row of spec/opcode_table.json gives bits, so no table word spells a
command. The frames of the management link do: their command bytes and operands are Table 11.2's. -/

namespace Sys2Proof

/-- The command that a word of `nbits` bits spells by the table's bits: none, since no row gives bits. -/
def decodeTableWord (_nbits _w : Nat) : Option Instr := none

/-- The value of a setup item from its six bytes, byte 0 first (11 section 11.5). -/
def valueOfBytes (bytes : List Byte) : ItemValue :=
  bytes.foldl (fun acc b => (acc <<< 8) ||| b.setWidth 48) 0#48

/-- The command that a frame on the management link carries: its command byte and operand bytes (R150, Table 11.2). A first
byte that names no command has no operands. `none`: the last byte has not been received, or bytes follow it. -/
def decodeFrame : List Byte → Option Instr
  | [] => none
  | code :: operands =>
    match Machine.operandCount code, code.toNat, operands with
    | none, _, [] => some (.unknownCommand code)
    | some _, 0x01, [] => some .status
    | some _, 0x02, [] => some .eventPop
    | some _, 0x03, [index] => some (.frameRead index)
    | some _, 0x04, [item] => some (.setupRead item)
    | some _, 0x05, [item, b0, b1, b2, b3, b4, b5] => some (.setupWrite item (valueOfBytes [b0, b1, b2, b3, b4, b5]))
    | some _, 0x06, [] => some .enterSetup
    | some _, 0x07, [] => some .leaveSetup
    | some _, 0x08, [] => some .recover
    | some _, 0x09, [operand] => some (.forceAbort operand)
    | _, _, _ => none

/-- The bytes of a link command's frame (Table 11.2); none for the commands of the other interfaces. -/
def encodeFrame : Instr → Option (List Byte)
  | .status => some [0x01#8]
  | .eventPop => some [0x02#8]
  | .frameRead index => some [0x03#8, index]
  | .setupRead item => some [0x04#8, item]
  | .setupWrite item value => some (0x05#8 :: item :: Machine.itemBytes value)
  | .enterSetup => some [0x06#8]
  | .leaveSetup => some [0x07#8]
  | .recover => some [0x08#8]
  | .forceAbort operand => some [0x09#8, operand]
  | .unknownCommand code => some [code]
  | .acceptRequest _ | .openFrame | .commit | .abort | .abortAll | .creqRiseIgnored | .creqFall | .release => none
  | .faultLineRise _ | .takeFault _ | .trefPulse | .holdExpired | .deadlineExpiry | .hardReset _ => none
  | .eventRemoved | .csNRise | .barrierCompletion | .captureGrant | .passthroughResponse _ _ => none
  | .preImageResponse _ _ | .logWriterStart | .logWriteResponse _ _ | .quiesceEnd | .unwindStep => none
  | .unwindReadResponse _ _ | .writeBackResponse _ _ | .rollbackCompletion | .downstreamGrant => none
  | .discardedResponse _ | .sweepClear | .csNFall | .rstNRise => none

end Sys2Proof
end

