-- ==== Sys2Proof/Machine/Ops.lean ====
section
/-! DEFINITION. The small operations that the blocks share: reading the state, posting events, answering, moving
Transaction Table entries, handing requests downstream, and the Capture Map. Each writes the fields it names and no
other. -/

namespace Sys2Proof.Machine

/-! ### Reading the state -/

/-- The depth (R2). -/
def State.depth (s : State) : Nat := s.frames.stack.length

/-- The top frame (R2). -/
def State.top (s : State) : Option Frame := s.frames.stack.getLast?

/-- The serial of the top frame, 0 when there is none. -/
def State.topSerial (s : State) : Serial := (s.top.map Frame.serial).getD 0#16

/-- Whether the top frame exists and is INTACT. -/
def State.topIntact (s : State) : Bool :=
  match s.top with
  | some f => f.status == .intact
  | none => false

/-- Whether a rollback is in flight (R83). -/
def State.rollingBack (s : State) : Bool := s.engine.phase != .idle

/-- Whether a barrier is in flight (R5). -/
def State.barrierInFlight (s : State) : Bool := s.frames.barrier.isSome

/-- The log count: head minus tail, modulo 2^32 (R64). -/
def State.logCount (s : State) : Nat := (s.log.head - s.log.tail).toNat

/-- Whether sequence `a` is below sequence `b`: on their difference modulo 2^32, within a span of 65,536 (R63). -/
def seqBelow (a b : Seq) : Bool := decide (0 < (b - a).toNat) && decide ((b - a).toNat ≤ 65536)

/-- IRQ_N: low while the queue holds an event (R156). -/
def State.irqN (s : State) : Bool := s.link.events.isEmpty

/-- CACK: high in ANSWERED (R103). -/
def State.cack (s : State) : Bool :=
  match s.ctl.handshake with
  | .answered _ => true
  | .idle | .working _ => false

/-- Whether the part drives SDO: while CS_N is low, and not while RST_N is low (R150). DESIGN CHOICE (log 29): it is driven
during a frame that is ignored because CS_N was low when RST_N rose, and shows 0 there; the spec says only that the bytes of
that frame are ignored. -/
def State.sdoDriven (s : State) : Bool := !s.link.csN && s.rstN

/-- The SDO output: the bit shown, or `none` while it is not driven (R150). -/
def State.sdoPin (s : State) : Option Bool := if s.sdoDriven then some s.link.sdo else none

/-! ### Events (R156) -/

/-- A posted record joins the back of the queue, or is discarded with the overrun flag set when 32 are queued. -/
def LinkUnit.post (l : LinkUnit) (e : EventRecord) : LinkUnit :=
  if l.events.length < Config.eventQueue then { l with events := l.events ++ [e] } else { l with overrun := true }

/-- Post an event with the present tick stamp (R123) and the depth given. -/
def State.postAt (s : State) (body : EventBody) (serial : Serial) (depth : Nat) : State :=
  { s with link := s.link.post { body := body, stamp := s.flt.ticks, depth := depth, serial := serial } }

/-- Post an event with the present depth. -/
def State.post (s : State) (body : EventBody) (serial : Serial) : State := s.postAt body serial s.depth

/-! ### Timers, sweep, control answers -/

/-- The hold timer stops with value 0 (R78). -/
def State.stopHold (s : State) : State := { s with log.hold := timerStopped }

/-- A refusal of space under WAIT starts a stopped hold timer at 0 and leaves a running one (R77). -/
def State.startHold (s : State) : State :=
  { s with log.hold := if s.log.hold.running then s.log.hold else { running := true, value := 0 } }

/-- The deadline counter is loaded with the deadline in force (R124). -/
def State.loadDeadline (s : State) : State :=
  { s with flt.deadline := { running := decide (1 ≤ s.flt.deadlineIn), value := s.flt.deadlineIn } }

/-- The deadline counter stops, keeping its value (R126). -/
def State.stopDeadline (s : State) : State := { s with flt.deadline.running := false }

/-- A sweep starts at position 0 (R56). -/
def State.startSweep (s : State) : State := { s with cap.sweep := { inFlight := true, position := 0 } }

/-- The answer event of the request in hand: CRESP takes the code and the handshake is ANSWERED (R106). Nothing is
answered when no answer is owed. -/
def ControlPort.answer (c : ControlPort) (a : CtlAnswer) : ControlPort :=
  match c.handshake with
  | .working r => { c with handshake := .answered r, cresp := a }
  | .idle | .answered _ => c

/-- The Control Port gives an answer (R106). -/
def State.answer (s : State) (a : CtlAnswer) : State := { s with ctl := s.ctl.answer a }

/-! ### Transaction Table entries (chapter 2) -/

/-- The entry in use that carries a tag; tags in use are distinct (R27). -/
def State.findTxn (s : State) (t : Tag) : Option Txn := s.up.txns.find? (·.tag == t)

/-- The age of the entry that carries a tag. -/
def State.ageOf (s : State) (t : Tag) : Nat := ((s.findTxn t).map Txn.age).getD 0

/-- Whether an entry is GUARDED. -/
def Txn.isGuarded (e : Txn) : Bool :=
  match e.cls with
  | .guarded _ _ => true
  | .plain | .loghit | .malformed => false

/-- Whether an entry is a GUARDED write. -/
def Txn.isGuardedWrite (e : Txn) : Bool := e.isGuarded && e.dir == .write

/-- The map index kept in a GUARDED entry (R24). -/
def Txn.mapIndex (e : Txn) : Nat :=
  match e.cls with
  | .guarded _ i => i
  | .plain | .loghit | .malformed => 0

/-- The window index kept in a GUARDED entry (R24). -/
def Txn.window (e : Txn) : Nat :=
  match e.cls with
  | .guarded w _ => w
  | .plain | .loghit | .malformed => 0

/-- Move the entry with a tag to a stage. -/
def UpstreamPort.setStage (u : UpstreamPort) (t : Tag) (st : Stage) : UpstreamPort :=
  { u with txns := u.txns.map fun e => if e.tag == t then { e with stage := st } else e }

/-- Move the entry with a tag to a stage. -/
def State.setStage (s : State) (t : Tag) (st : Stage) : State := { s with up := s.up.setStage t st }

/-- A request has its turn when no entry in use with a lower age has the same line (R29). -/
def State.hasTurn (s : State) (e : Txn) : Bool :=
  !s.up.txns.any fun o => o.line == e.line && decide (o.age < e.age)

/-- Deliver a response to the host (R35). -/
def State.respond (s : State) (t : Tag) (code : UpCode) (data : List Beat) : State :=
  { s with obs.responses := s.obs.responses ++ [{ tag := t, code := code, data := data }] }

/-- A slot that serves the entry with a tag loses it (R53). -/
def CaptureSlot.drop (t : Tag) (c : CaptureSlot) : CaptureSlot :=
  if c.write == some t then { c with write := none } else c

/-- An entry is answered and reaches DONE: the response is delivered and the entry and its tag are freed (R35). It leaves
the barrier set (R6), the quiesce set (R91), the wait list (R46) and its capture slot (R53). -/
def State.finish (s : State) (t : Tag) (code : UpCode) (data : List Beat) : State :=
  { s.respond t code data with
    up.txns := s.up.txns.filter (·.tag != t)
    frames.barrier := s.frames.barrier.map (·.filter (· != t))
    engine.quiesce := s.engine.quiesce.filter (· != t)
    cap.waitList := s.cap.waitList.filter (· != t)
    cap.slots := s.cap.slots.map (Option.map (CaptureSlot.drop t)) }

/-- Hand a request to its source queue (R129). -/
def State.handOver (s : State) (w : Waiting) : State := { s with down.waiting := s.down.waiting ++ [w] }

/-- An entry is issued: it enters ISSUED, leaves the barrier set (R6), and its request is handed to the passthrough
source with its own address and length (R30, R23). -/
def State.issue (s : State) (e : Txn) : State :=
  { (s.setStage e.tag .issued).handOver
      { origin := .txn e.tag, dir := e.dir, addr := e.addr, length := e.length, beats := [] } with
    frames.barrier := s.frames.barrier.map (·.filter (· != e.tag)) }

/-! ### The Capture Map (R40) -/

/-- The serial that an entry of the map holds. -/
def CaptureMap.read (m : CaptureMap) (i : Nat) : Serial :=
  match m.written.lookup i with
  | some v => v
  | none => if i < m.knownBelow then 0#16 else Config.powerUpMapEntry m.powerUp i

/-- Put an entry into a list with rising indices. -/
def putEntry (i : Nat) (v : Serial) : List (Nat × Serial) → List (Nat × Serial)
  | [] => [(i, v)]
  | (j, w) :: rest =>
    if i < j then (i, v) :: (j, w) :: rest
    else if i = j then (i, v) :: rest
    else (j, w) :: putEntry i v rest

/-- Take an entry out of the list. -/
def dropEntry (i : Nat) (l : List (Nat × Serial)) : List (Nat × Serial) := l.filter (·.1 != i)

/-- An entry takes a serial. The canonical form is kept: 0 below `knownBelow` is not listed. -/
def CaptureMap.write (m : CaptureMap) (i : Nat) (v : Serial) : CaptureMap :=
  if v = 0#16 ∧ i < m.knownBelow then { m with written := dropEntry i m.written }
  else { m with written := putEntry i v m.written }

/-- The sweep clears an entry to 0 (R56). Clearing the first entry whose power-up value is still unread makes it known. -/
def CaptureMap.clear (m : CaptureMap) (i : Nat) : CaptureMap :=
  if i = m.knownBelow then { m with written := dropEntry i m.written, knownBelow := i + 1 } else m.write i 0#16

/-- The map after power-up: every entry unknown (R60). -/
def CaptureMap.lost (m : CaptureMap) : CaptureMap := { written := [], knownBelow := 0, powerUp := m.powerUp + 1 }

/-- The canonical form: indices strictly rising, and no entry that holds what an unlisted index would read as. -/
def CaptureMap.wf (m : CaptureMap) : Bool :=
  decide ((m.written.map Prod.fst).Pairwise (· < ·)) &&
    m.written.all (fun p => p.2 != 0#16 || decide (m.knownBelow ≤ p.1))

end Sys2Proof.Machine
end

