-- ==== Sys2Proof/Machine/Windows.lean ====
section
/-! DEFINITION. The Window Table: which window a line lies in, the class of a request, map offsets, the slots of the log
region, and the checks of LEAVE_SETUP (chapters 2, 4 and 9). -/

namespace Sys2Proof.Machine

/-- A line is in a window when the window is enabled and holds the line's page (R20). -/
def Window.contains (w : Window) (line : Addr) : Bool :=
  w.enable && decide (w.basePage.toNat ≤ pageOf line) && decide (pageOf line < w.basePage.toNat + w.pages)

/-- The map index of a line in a window (R21). -/
def Window.mapIndexOf (w : Window) (line : Addr) : Nat :=
  w.mapOffset + (line.toNat - pageBase w.basePage) / 64

/-- The window index and the map index of a line, searching from window number `n` on (R24). -/
def findWindow (line : Addr) : Nat → List Window → Option (Nat × Nat)
  | _, [] => none
  | n, w :: ws => if w.contains line then some (n, w.mapIndexOf line) else findWindow line (n + 1) ws

/-- The first byte of the log region (R22). -/
def WindowTable.logStart (t : WindowTable) : Nat := pageBase t.logBase

/-- The end of the log region, not included (R22). -/
def WindowTable.logEnd (t : WindowTable) : Nat := t.logStart + t.capacity * 128

/-- A line is in the log region when its address lies in the region's range (R22). -/
def WindowTable.inLog (t : WindowTable) (line : Addr) : Bool :=
  decide (t.logStart ≤ line.toNat) && decide (line.toNat < t.logEnd)

/-- The address of a sequence's slot in the log region: its header line; the image line is 64 bytes on (R65). -/
def WindowTable.slotAddr (t : WindowTable) (q : Seq) : Addr :=
  BitVec.ofNat 40 (t.logStart + q.toNat % t.capacity * 128)

/-- The position of a request's first group in its line (R23). -/
def firstGroup (r : Request) : Nat := r.addr.toNat % 64 / 8

/-- A request that is MALFORMED (R23). -/
def malformed (r : Request) : Bool :=
  r.length == 0 || decide (8 < r.length) || decide (8 < firstGroup r + r.length)

/-- The class of a request accepted in an operating state (R24, Table 2.2). -/
def classify (st : OpState) (t : WindowTable) (r : Request) : AccessClass :=
  if malformed r then .malformed
  else
    match st with
    | .setup => .plain
    | .active | .failed =>
      match findWindow (lineOf r.addr) 0 t.windows with
      | some (w, i) => .guarded w i
      | none => if t.inLog (lineOf r.addr) then .loghit else .plain

/-- Map offsets in increasing index order, from an offset on; a disabled window has offset 0 (R21). -/
def assignOffsets : Nat → List Window → List Window
  | _, [] => []
  | off, w :: ws =>
    if w.enable then { w with mapOffset := off } :: assignOffsets (off + 64 * w.pages) ws
    else { w with mapOffset := 0 } :: assignOffsets off ws

/-- The windows that the setup table describes, items 0x00 to 0x07. -/
def setupWindows (setup : List ItemValue) : List Window :=
  (List.range Config.windows).map fun n => windowOfItem (setupItem setup n)

/-- The Window Table that a successful LEAVE_SETUP loads (R20). -/
def loadWindows (setup : List ItemValue) : WindowTable :=
  { windows := assignOffsets 0 (setupWindows setup), logBase := setupLogBase setup, capacity := setupCapacity setup }

/-- The permitted capacities (R65). -/
def permittedCapacities : List Nat := [64, 128, 256, 512, 1024, 2048, 4096, 8192, 16384, 32768, 65536]

/-- Two windows share a page. -/
def Window.overlaps (a b : Window) : Bool :=
  decide (a.basePage.toNat < b.basePage.toNat + b.pages) && decide (b.basePage.toNat < a.basePage.toNat + a.pages)

/-- Some two windows of a list share a page. -/
def someOverlap : List Window → Bool
  | [] => false
  | w :: ws => ws.any w.overlaps || someOverlap ws

/-- A byte of the log region lies in a window: the byte ranges are compared (R139). -/
def Window.meetsLog (t : WindowTable) (w : Window) : Bool :=
  decide (t.logStart < (w.basePage.toNat + w.pages) * 4096) && decide (pageBase w.basePage < t.logEnd)

/-- The checks of R139 in their order: the detail of the first that fails, or none. -/
def validateSetup (setup : List ItemValue) : Option SetupDetail :=
  let t := loadWindows setup
  let enabled := t.windows.filter Window.enable
  if enabled.isEmpty then some .noWindow
  else if enabled.any (fun w => decide (2 ^ 28 < w.basePage.toNat + w.pages)) then some .range
  else if someOverlap enabled then some .overlap
  else if 512 < (enabled.map Window.pages).sum then some .footprint
  else if !permittedCapacities.contains t.capacity then some .logSize
  else if 2 ^ 40 < t.logEnd then some .range
  else if enabled.any (Window.meetsLog t) then some .logOverlap
  else none

end Sys2Proof.Machine
end

