-- ==== Sys2Proof/Machine/Log.lean ====
section
/-! DEFINITION. The Log Unit's reclaiming (chapter 4), the judging of captures, the break of a frame and the grant of
captures (chapters 1, 3 and 4). They stand together because a refusal of log space breaks frames, and a break judges the
waiting writes again. -/

namespace Sys2Proof.Machine

/-! ### Reclaiming (R73, R75) -/

/-- A record write whose entry leaves the queue is orphaned (R72). -/
def WriterJob.orphanIf (gone : Seq → Bool) (j : WriterJob) : WriterJob :=
  if gone j.seq then { j with orphaned := true } else j

/-- The Log Unit after the tail moves: the below-tail rule discards staging entries and orphans a write in progress on one
of them (R75). -/
def LogUnit.moveTail (l : LogUnit) (newTail : Seq) : LogUnit :=
  { l with
    tail := newTail
    staging := l.staging.filter fun e => !seqBelow e.seq newTail
    writer := l.writer.map (WriterJob.orphanIf fun q => l.staging.any fun e => e.seq == q && seqBelow e.seq newTail) }

/-- A reclaiming event: the tail moves up, the below-tail rule is applied, and the hold timer stops if the count is now
below the capacity (R73). -/
def State.reclaim (s : State) (newTail : Seq) : State :=
  let s' := { s with log := s.log.moveTail newTail }
  if s'.logCount < s'.win.capacity then s'.stopHold else s'

/-! ### The capture decision (R41) and the wait list (R43, R46) -/

/-- Table 3.1: whether a guarded write whose map index is `i` needs a capture. -/
def State.needsCapture (s : State) (i : Nat) : Bool :=
  match s.top with
  | none => false
  | some f =>
    match f.status with
    | .broken => false
    | .intact => s.cap.sweep.inFlight || s.cap.map.read i != f.serial

/-- Put a tag into a list kept by age, oldest first (R46). -/
def insertByAge (age : Tag → Nat) (t : Tag) : List Tag → List Tag
  | [] => [t]
  | u :: rest => if age t < age u then t :: u :: rest else u :: insertByAge age t rest

/-- A write enters CAPTURE and joins the capture wait list (R41, R46). -/
def State.joinWaitList (s : State) (e : Txn) : State :=
  { s.setStage e.tag .capture with cap.waitList := insertByAge s.ageOf e.tag s.cap.waitList }

/-- A guarded write at its capture stage: it joins the wait list or is issued at once (R31, R41). -/
def State.judge (s : State) (e : Txn) : State :=
  if s.needsCapture e.mapIndex then s.joinWaitList e else s.issue e

/-- One waiting write judged again: it stays, or leaves the list and is issued (R43). -/
def State.rejudgeOne (s : State) (t : Tag) : State :=
  match s.findTxn t with
  | none => s
  | some e =>
    if s.needsCapture e.mapIndex then s
    else { s.issue e with cap.waitList := s.cap.waitList.filter (· != t) }

/-- The waiting writes judged again in age order; the hold timer stops when none is left (R43, R78). -/
def State.rejudge (s : State) : State :=
  let s' := s.cap.waitList.foldl State.rejudgeOne s
  if s'.cap.waitList.isEmpty then s'.stopHold else s'

/-! ### The break of a frame (R15) -/

/-- The lowest INTACT frame becomes BROKEN: the tail moves to the start of the frame above it, or to the head;
FRAME_BROKEN is posted; a break of the top judges the waiting writes again (R15, R43). -/
def State.breakLowest (s : State) (cause : BreakCause) : State :=
  match s.frames.stack.dropWhile (·.status == .broken) with
  | [] => s
  | f :: above =>
    let stack := s.frames.stack.takeWhile (·.status == .broken) ++ { f with status := .broken } :: above
    let newTail := (above.head?.map Frame.start).getD s.log.head
    let s' := (({ s with frames.stack := stack }).reclaim newTail).post (.frameBroken cause) f.serial
    if above.isEmpty then s'.rejudge else s'

/-! ### The grant of a capture (R46 to R48, R66, R76, R77) -/

/-- Whether the oldest waiting write may ask for log space: a FREE slot, a staging entry to be had, an INTACT top and no
rollback in flight (R46, R55, R64). -/
def State.canAsk (s : State) : Bool :=
  s.rstN && !s.rollingBack && s.topIntact && s.cap.slots.any Option.isNone &&
    decide (s.log.staging.length < Config.stagingEntries)

/-- The grant of R47 to the oldest waiting write: sequence, staging entry, slot, pre-image read. The slot is the FREE one
with the lowest index (log 24). -/
def State.grantOldest (s : State) : State :=
  match s.cap.waitList with
  | [] => s
  | t :: rest =>
    match s.findTxn t, s.cap.slots.findIdx? Option.isNone with
    | some e, some i =>
      let q := s.log.head
      let slot : CaptureSlot :=
        { write := some t, seq := q, serial := s.topSerial, line := e.line, mapIndex := e.mapIndex, abandoned := false }
      let entry : StagingEntry :=
        { seq := q, serial := s.topSerial, window := e.window, mapIndex := e.mapIndex, line := e.line,
          content := .pending }
      { s.handOver { origin := .slot i, dir := .read, addr := e.line, length := 8, beats := [] } with
        log.head := q + 1
        log.staging := s.log.staging ++ [entry]
        cap.slots := s.cap.slots.set i (some slot)
        cap.waitList := rest }
    | _, _ => s

/-- The grants of one event. The oldest waiting write asks for space while it may; below capacity it is granted; a refusal
is treated by the log-full policy (R46, R48). `expired` says that the hold time has just expired, so that refusals break
frames with cause HOLD_EXPIRED until a grant succeeds (R78). The first argument bounds the work: each round grants a
write or breaks a frame. -/
def State.grantLoop : Nat → Bool → State → State
  | 0, _, s => s
  | n + 1, expired, s =>
    if s.cap.waitList.isEmpty || !s.canAsk then s
    else if s.logCount < s.win.capacity then State.grantLoop n false s.grantOldest
    else if expired then State.grantLoop n true (s.breakLowest .holdExpired)
    else
      match s.mode.logPolicy with
      | .break => State.grantLoop n false (s.breakLowest .logFull)
      | .wait => s.startHold

/-- Rounds that always suffice: one per waiting write and one per frame. -/
def State.grantRounds (s : State) : Nat := s.cap.waitList.length + s.depth + 1

/-- The grants attempted at an event (R46). -/
def State.grantCaptures (s : State) : State := State.grantLoop s.grantRounds false s

/-- The hold time expires: the timer stops with value 0, the lowest INTACT frame is broken with cause HOLD_EXPIRED, and
the wait list proceeds as under BREAK (R78). -/
def State.expireHold (s : State) : State :=
  let s' := s.stopHold.breakLowest .holdExpired
  State.grantLoop s'.grantRounds true s'

/-! ### The end of a capture (R49 to R54) -/

/-- Whether the record of a slot is still retained: its PENDING entry is in the Staging Queue, which it leaves only by the
below-tail rule or at entry to FAILED (R67, R75; log 14). -/
def State.retained (s : State) (c : CaptureSlot) : Bool :=
  s.log.staging.any fun e => e.seq == c.seq && e.content == .pending

/-- The staging entry of a sequence becomes READY with a content (R62, R68). -/
def LogUnit.complete (l : LogUnit) (q : Seq) (content : Content) : LogUnit :=
  { l with staging := l.staging.map fun e => if e.seq == q then { e with content := content } else e }

/-- An OK completion: a retained record becomes an IMAGE and the map entry takes the serial used; the write, if present,
is issued (R50, R52, R53). -/
def State.captureOk (s : State) (c : CaptureSlot) (data : LineData) : State :=
  let s' :=
    if s.retained c then
      { s with log := s.log.complete c.seq (.image data), cap.map := s.cap.map.write c.mapIndex c.serial }
    else s
  match c.write.bind s'.findTxn with
  | some e => s'.issue e
  | none => s'

/-- An ERR completion: a retained record becomes VOID; the write, if present, is answered MEMERR; CAPTURE_ERROR is posted
(R51, R52, R53). -/
def State.captureErr (s : State) (c : CaptureSlot) : State :=
  let s' := if s.retained c then { s with log := s.log.complete c.seq .void } else s
  let s'' :=
    match c.write with
    | some t => s'.finish t .memerr []
    | none => s'
  s''.post (.captureError c.line) c.serial

/-- The completion of the capture in slot `i`: the slot becomes FREE, and unless it was abandoned the capture ends by R50
to R53 (R49, R54). -/
def State.completeCapture (s : State) (i : Nat) (resp : LineResponse) : State :=
  match s.cap.slots.getD i none with
  | none => s
  | some c =>
    let s' := { s with cap.slots := s.cap.slots.set i none }
    if c.abandoned then s'
    else
      match resp with
      | .ok data => s'.captureOk c data
      | .err => s'.captureErr c

end Sys2Proof.Machine
end

