-- ==== Sys2Proof/Machine/Upstream.lean ====
section
/-! DEFINITION. The path of an access through the Upstream Port (chapter 2): acceptance, turns, release from HELD. -/

namespace Sys2Proof.Machine

/-- An entry that has its turn and is not held proceeds: a GUARDED write reaches its capture stage, any other request is
issued (R30, R31). -/
def State.proceed (s : State) (e : Txn) : State :=
  if e.isGuardedWrite then s.judge e else s.issue e

/-- The conditions of acceptance (R27). -/
def State.canAccept (s : State) (r : Request) : Bool :=
  decide (s.up.txns.length < Config.transactions) && !s.up.txns.any (·.tag == r.tag)

/-- The entry that acceptance makes of a request (Table 2.3). -/
def State.newTxn (s : State) (r : Request) (cls : AccessClass) : Txn :=
  { tag := r.tag, dir := r.dir, addr := r.addr, length := r.length, line := lineOf r.addr,
    data :=
      match r.dir with
      | .read => none
      | .write => some r.beats,
    cls := cls, age := s.up.nextAge, stage := .waitLine }

/-- A new entry takes its first stage: HELD by a rollback (R33) or by a barrier (R32), its turn (R30, R31), or WAIT_LINE
(R29). -/
def State.enroll (s : State) (e : Txn) : State :=
  let s' := { s with up.txns := s.up.txns ++ [e], up.nextAge := s.up.nextAge + 1 }
  if e.isGuarded && s.rollingBack then s'.setStage e.tag (.held .rollback)
  else if e.isGuardedWrite && s.barrierInFlight then s'.setStage e.tag (.held .barrier)
  else if s'.hasTurn e then s'.proceed e
  else s'

/-- A request answered at its acceptance takes an age and makes no entry that outlives the event (R28). -/
def State.answerAtAcceptance (s : State) (r : Request) (code : UpCode) : State :=
  ({ s with up.nextAge := s.up.nextAge + 1 }).respond r.tag code []

/-- The acceptance of a request: its class, then its answer at once (R28) or its first stage. -/
def State.accept (s : State) (r : Request) : State :=
  match classify s.mode.state s.win r with
  | .malformed => s.answerAtAcceptance r .formerr
  | .loghit => s.answerAtAcceptance r .denied
  | .plain => s.enroll (s.newTxn r .plain)
  | .guarded w i =>
    match s.mode.state with
    | .failed => s.answerAtAcceptance r .denied
    | .setup | .active => s.enroll (s.newTxn r (.guarded w i))

/-- The request presented is accepted when the conditions of R27 hold; otherwise it stays presented. -/
def State.acceptPresented (s : State) : State :=
  match s.up.presented with
  | none => s
  | some r => if s.canAccept r then ({ s with up.presented := none }).accept r else s

/-- An entry in WAIT_LINE that has its turn proceeds (R29). -/
def State.wakeOne (s : State) (t : Tag) : State :=
  match s.findTxn t with
  | none => s
  | some e => if e.stage == .waitLine && s.hasTurn e then s.proceed e else s

/-- Every entry in WAIT_LINE that has gained its turn proceeds, in order of age (R29). -/
def State.wake (s : State) : State := (s.up.txns.map Txn.tag).foldl State.wakeOne s

/-- One entry leaves HELD: it proceeds if it has its turn and enters WAIT_LINE otherwise (R34). -/
def State.releaseOne (s : State) (t : Tag) : State :=
  match s.findTxn t with
  | none => s
  | some e => if s.hasTurn e then s.proceed e else s.setStage t .waitLine

/-- The tags of the entries held by a cause, oldest first. -/
def State.heldBy (s : State) (cause : HoldCause) : List Tag :=
  (s.up.txns.filter (·.stage == .held cause)).map Txn.tag

/-- The release of every entry held by a cause, in order of age (R34). -/
def State.release (s : State) (cause : HoldCause) : State := (s.heldBy cause).foldl State.releaseOne s

/-- The GUARDED entries not yet issued, oldest first: those in WAIT_LINE, CAPTURE or HELD (R33, R37). -/
def State.unissuedGuarded (s : State) : List Txn :=
  s.up.txns.filter fun e => e.isGuarded && e.stage != .issued

end Sys2Proof.Machine
end

