-- ==== Sys2Proof/Machine/Frames.lean ====
section
/-! DEFINITION. The Frame Stack (chapter 1): serial issue, push, fold, the barrier and its completion, COMMIT. -/

namespace Sys2Proof.Machine

/-! ### Serial issue (R3, R4) -/

/-- The candidate after a serial, and whether the move is from 65535 to 1 (R3). -/
def advanceSerial (c : Serial) : Serial × Bool := if c = 65535#16 then (1#16, true) else (c + 1#16, false)

/-- The walk past serials that may not be issued: the first candidate that is none of them, and whether the walk wraps.
The number bounds the walk. -/
def walkSerial (used : List Serial) : Nat → Serial × Bool → Serial × Bool
  | 0, c => c
  | n + 1, c =>
    if used.contains c.1 then
      walkSerial used n ((advanceSerial c.1).1, c.2 || (advanceSerial c.1).2)
    else c

/-- The serials the walk passes over: those on the stack, and those held over the latest wrap (R3). -/
def FrameStack.usedSerials (fs : FrameStack) : List Serial := fs.stack.map Frame.serial ++ fs.held

/-- The serial choice (R3): the serial, and whether the choice wraps. -/
def State.chooseSerial (s : State) : Serial × Bool :=
  walkSerial s.frames.usedSerials s.frames.usedSerials.length (advanceSerial s.frames.counter)

/-! ### Push and fold (R8, R10, R11) -/

/-- A push with a serial choice made before (R8). A choice that wraps starts a sweep and renews the serials held over the
latest wrap (R4). -/
def State.push (s : State) (choice : Serial × Bool) (origin : FrameOrigin) : State :=
  let frame : Frame :=
    { serial := choice.1, start := s.log.head, status := .intact, origin := origin, folded := false }
  let s' := { s with
    frames.stack := s.frames.stack ++ [frame]
    frames.counter := choice.1
    frames.held := if choice.2 then s.frames.stack.map Frame.serial else s.frames.held }
  let s'' := if choice.2 then s'.startSweep else s'
  s''.loadDeadline.post (.frameOpened origin) choice.1

/-- The two bottom frames become one (R10). When the bottom is BROKEN and the absorbed frame INTACT, the absorbed frame's
records are reclaimed and FRAME_BROKEN is posted for it (R11). -/
def State.fold (s : State) : State :=
  match s.frames.stack with
  | b :: a :: rest =>
    let s' := ({ s with frames.stack := { b with folded := true } :: rest }).post (.framesFolded a.serial) b.serial
    if b.status == .broken && a.status == .intact then
      (s'.reclaim ((rest.head?.map Frame.start).getD s.log.head)).post (.frameBroken .fold) a.serial
    else s'
  | _ => s

/-! ### The barrier (R5 to R7) -/

/-- A guarded write that has not yet left its capture stage: in WAIT_LINE or CAPTURE (R6). -/
def Txn.undecided (e : Txn) : Bool :=
  e.isGuardedWrite && (e.stage == .waitLine || e.stage == .capture)

/-- A barrier begins: its set is every guarded write that has not yet left its capture stage (R6). -/
def State.beginBarrier (s : State) : State :=
  { s with frames.barrier := some ((s.up.txns.filter Txn.undecided).map Txn.tag) }

/-- The outcome of the OPEN when its barrier completes, the conditions of R7 tested in their order. -/
def State.decideOpen (s : State) : State :=
  let choice := s.chooseSerial
  let full := decide (Config.maxDepth ≤ s.depth)
  if full && s.mode.depthPolicy == .refuse then s.answer .depth
  else if choice.2 && s.cap.sweep.inFlight then s.answer .busy
  else if full then (s.fold.push choice .control).answer .done
  else (s.push choice .control).answer .done

/-- The barrier completes: its flag clears, the OPEN is decided and answered, and the writes that the barrier held are
released (R7). -/
def State.completeBarrier (s : State) : State :=
  ({ s with frames.barrier := none }).decideOpen.release .barrier

/-- The abandoned or refused OPEN of a rollback: RESERVED, and kept as the reservation, when reservation is enabled and the
slot is free; BUSY otherwise (R112). -/
def State.reserveOrBusy (s : State) : State :=
  if s.mode.reservation && !s.ctl.reserved then ({ s with ctl.reserved := true }).answer .reserved
  else s.answer .busy

/-- A rollback's start abandons a barrier in flight, and the OPEN is answered (R12). -/
def State.abandonBarrier (s : State) : State :=
  match s.frames.barrier with
  | none => s
  | some _ => ({ s with frames.barrier := none }).reserveOrBusy

/-! ### COMMIT (R14) -/

/-- The top frame is committed (R14): at depth 1 the log is emptied; at depth 2 or more the frame below becomes the top,
and the records of an INTACT frame committed onto a BROKEN one are reclaimed. The waiting writes are judged again (R43). -/
def State.commitTop (s : State) : State :=
  match s.top with
  | none => s
  | some f =>
    let s' := { s with frames.stack := s.frames.stack.dropLast }
    match s'.top with
    | none =>
      (((s'.reclaim s.log.head).stopHold.stopDeadline).post (.frameCommitted false) f.serial).rejudge
    | some g =>
      let s'' := if f.status == .intact && g.status == .broken then s'.reclaim s.log.head else s'
      (s''.loadDeadline.post (.frameCommitted true) f.serial).rejudge

/-- The part of R7 to R9 that a reservation takes at the completion of a rollback: a push with origin RESERVED, or
cancellation with cause SWEEP (R9). -/
def State.takeReservation (s : State) : State :=
  if s.ctl.reserved then
    let choice := s.chooseSerial
    let s' := { s with ctl.reserved := false }
    if choice.2 && s.cap.sweep.inFlight then s'.post (.reservationCancelled .sweep) 0#16
    else (s'.push choice .reserved).post .reservationTaken choice.1
  else s

end Sys2Proof.Machine
end

