-- ==== Sys2Proof/Machine/Failure.lean ====
section
/-! DEFINITION. Entry to FAILED (R145), and the log writer (chapter 4), whose second failed attempt is one of its causes. -/

namespace Sys2Proof.Machine

/-! ### Entry to FAILED (R145) -/

/-- The source that an origin belongs to (Table 8.2). -/
def Origin.source : Origin → Source
  | .txn _ => .passthrough
  | .slot _ => .capture
  | .logHeader | .logImage => .log
  | .unwindHeader | .unwindImage | .writeBack => .rollback

/-- An OUTSTANDING slot of rollback traffic takes the dropped mark (R134). -/
def DSlot.dropRollback : DSlot → DSlot
  | .outstanding o line d => .outstanding o line (d || o.source == .rollback)
  | .free => .free
  | .stale line => .stale line

/-- The rollback traffic waiting is withdrawn, and that outstanding is marked dropped (R134). -/
def DownstreamPort.withdrawRollback (d : DownstreamPort) : DownstreamPort :=
  { slots := d.slots.map DSlot.dropRollback, waiting := d.waiting.filter fun w => w.origin.source != .rollback }

/-- A READING slot becomes abandoned and loses its write (R54). -/
def CaptureSlot.abandon (c : CaptureSlot) : CaptureSlot := { c with write := none, abandoned := true }

/-- Every frame becomes BROKEN and keeps its other fields (R17). -/
def Frame.breakUp (f : Frame) : Frame := { f with status := .broken }

/-- An entry removed at entry to FAILED is answered DENIED (R37). -/
def State.deny (s : State) (e : Txn) : State := s.finish e.tag .denied []

/-- A held reservation is cancelled with cause FAILED (R113). -/
def State.cancelReservation (s : State) : State :=
  if s.ctl.reserved then ({ s with ctl.reserved := false }).post (.reservationCancelled .failed) 0#16 else s

/-- Entry to FAILED with a cause: items 1 to 12 of R145. An answer is owed exactly while the handshake is WORKING (R111). -/
def State.enterFailed (s : State) (cause : FailCause) : State :=
  let s1 := s.unissuedGuarded.foldl State.deny s
  let s2 := { s1 with
    mode.state := .failed
    frames.stack := s1.frames.stack.map Frame.breakUp
    frames.barrier := none
    engine := engineIdle
    cap.slots := s1.cap.slots.map (Option.map CaptureSlot.abandon)
    cap.waitList := []
    log.tail := s1.log.head
    log.staging := []
    log.writer := s1.log.writer.map (WriterJob.orphanIf fun _ => true)
    down := s1.down.withdrawRollback }
  (((s2.stopHold.stopDeadline).answer .failed).post (.deviceFailed cause) s2.topSerial).cancelReservation

/-! ### The log writer (R69 to R72) -/

/-- The record of a sequence in the Staging Queue. -/
def State.stagedRecord (s : State) (q : Seq) : Option StagingEntry := s.log.staging.find? (·.seq == q)

/-- Whether a staging entry is READY (R67). -/
def StagingEntry.ready (e : StagingEntry) : Bool := e.content != .pending

/-- The two writes of an attempt: the header line, then the image line 64 bytes on (R70). -/
def State.handRecord (s : State) (e : StagingEntry) : State :=
  let a := s.win.slotAddr e.seq
  (s.handOver { origin := .logHeader, dir := .write, addr := a, length := 8, beats := lineBeats (headerLine e) }).handOver
    { origin := .logImage, dir := .write, addr := a + 64#40, length := 8,
      beats := lineBeats (storedImage e.content) }

/-- An attempt begins: the writer holds the sequence and the attempt, and its two writes are handed downstream (R70). -/
def State.beginAttempt (s : State) (e : StagingEntry) (attempt : Attempt) : State :=
  { s with log.writer := some { seq := e.seq, attempt := attempt, orphaned := false, answers := 0, anyErr := false } }.handRecord
    e

/-- The front entry that the log writer may start on: the writer is idle, the part is ACTIVE, no rollback is in flight and
the front is READY (R69). -/
def State.writerFront (s : State) : Option StagingEntry :=
  if s.rstN && s.log.writer.isNone && s.mode.state == .active && !s.rollingBack then
    s.log.staging.head?.filter StagingEntry.ready
  else none

/-- The log writer starts a record write when it may (R69). -/
def State.startWriter (s : State) : State :=
  match s.writerFront with
  | some e => s.beginAttempt e .first
  | none => s

/-- The end of an attempt (R70 to R72): an orphaned write is ignored; a good one stores the record; a failed first attempt
is retried with LOG_RETRY; a failed second attempt enters FAILED. -/
def State.endAttempt (s : State) (j : WriterJob) : State :=
  let idle := { s with log.writer := none }
  if j.orphaned then idle
  else
    match s.stagedRecord j.seq with
    | none => idle
    | some e =>
      if j.anyErr then
        match j.attempt with
        | .first => (s.post (.logRetry (s.win.slotAddr e.seq)) e.serial).beginAttempt e .second
        | .second => idle.enterFailed .logWrite
      else { idle with log.staging := s.log.staging.filter (·.seq != j.seq) }

/-- A response to one of the attempt's two writes is counted; the second ends the attempt (R70). -/
def State.countLogAnswer (s : State) (resp : MemStatus) : State :=
  match s.log.writer with
  | none => s
  | some j =>
    let j' := { j with answers := j.answers + 1, anyErr := j.anyErr || resp == .err }
    if 2 ≤ j'.answers then s.endAttempt j' else { s with log.writer := some j' }

end Sys2Proof.Machine
end

