-- ==== Sys2Proof/Machine/Rollback.lean ====
section
/-! DEFINITION. The Rollback Engine (chapter 5): abort requests, the start, overtaking, QUIESCE, UNWIND, completion. -/

namespace Sys2Proof.Machine

/-- The kinds of abort request (05 section 5.2). -/
inductive AbortKind where
  | top
  | all
deriving DecidableEq, Repr

/-! ### The start (R85 to R87) -/

/-- An unissued guarded entry at the start under an INTACT top: a write is absorbed and answered OK, a read enters HELD
(R86). -/
def State.absorb (s : State) (e : Txn) : State :=
  match e.dir with
  | .write => s.finish e.tag .ok []
  | .read => s.setStage e.tag (.held .rollback)

/-- The quiesce set at the start: the GUARDED writes in ISSUED, and under a BROKEN top those not yet issued too (R85). -/
def State.quiesceSet (s : State) : List Tag :=
  (s.up.txns.filter fun e => e.isGuardedWrite && (e.stage == .issued || !s.topIntact)).map Txn.tag

/-- The engine at the start of a rollback (R85). -/
def State.startEngine (s : State) (kind : AbortKind) (fromControl : Bool) : RollbackEngine :=
  { phase := .quiesce
    target := some (match kind with
      | .top => s.depth - 1
      | .all => 0)
    owed := if fromControl then .rollback else .none
    quiesce := s.quiesceSet
    hand := none
    applied := 0 }

/-- A rollback starts (R85): the engine enters QUIESCE, the timers stop, a barrier is abandoned, and the unissued guarded
entries are dealt with under R86 or R87. -/
def State.startRollback (s : State) (kind : AbortKind) (fromControl : Bool) : State :=
  let s' := ({ s with engine := s.startEngine kind fromControl }.stopHold.stopDeadline).abandonBarrier
  if s.topIntact then
    let s'' := s'.unissuedGuarded.foldl State.absorb s'
    { s'' with cap.waitList := [] }
  else s'.release .barrier

/-! ### Abort requests (R84, R89) -/

/-- An abort request overtakes a rollback in flight: the target depth moves down, and a control request is owed its answer
(R89). -/
def RollbackEngine.overtake (g : RollbackEngine) (kind : AbortKind) (fromControl : Bool) : RollbackEngine :=
  let target := g.target.getD 0
  { g with
    target := some (match kind with
      | .top => target - 1
      | .all => 0)
    owed :=
      if fromControl then if kind == .top && target == 0 then .noFrame else .rollback
      else g.owed }

/-- An abort request reaches the Rollback Engine in ACTIVE (R84, R89). A control request at depth 0 is answered NO_FRAME;
a request of a fault source there has no effect. -/
def State.requestAbort (s : State) (kind : AbortKind) (fromControl : Bool) : State :=
  if s.rollingBack then { s with engine := s.engine.overtake kind fromControl }
  else if s.depth = 0 then if fromControl then s.answer .noFrame else s
  else s.startRollback kind fromControl

/-! ### QUIESCE and UNWIND (R90 to R97) -/

/-- The target depth; 0 when it is absent. -/
def State.targetDepth (s : State) : Nat := s.engine.target.getD 0

/-- The popped frames: those above the target depth (R90). -/
def State.popped (s : State) : List Frame := s.frames.stack.drop s.targetDepth

/-- The stop point: the start of the lowest INTACT popped frame, absent when every popped frame is BROKEN (R90). -/
def State.stopPoint (s : State) : Option Seq := (s.popped.find? (·.status == .intact)).map Frame.start

/-- UNWIND has nothing left to apply: the stop point is absent or the head equals it (R93). -/
def State.atStop (s : State) : Bool :=
  match s.stopPoint with
  | none => true
  | some q => s.log.head == q

/-- The three conditions that end QUIESCE (R91). -/
def State.quiesceOver (s : State) : Bool :=
  s.engine.phase == .quiesce && s.cap.slots.all Option.isNone && s.engine.quiesce.isEmpty && s.log.writer.isNone

/-- QUIESCE ends: the phase becomes UNWIND (R91). -/
def State.endQuiesce (s : State) : State := { s with engine.phase := .unwind }

/-- The sequence that the next step handles: the head minus one (R93). -/
def State.expectedSeq (s : State) : Seq := s.log.head - 1#32

/-- A write-back of a record's image to its line is handed to the rollback source (R96). -/
def State.handWriteBack (s : State) (line : Addr) (data : LineData) : State :=
  s.handOver { origin := .writeBack, dir := .write, addr := line, length := 8, beats := lineBeats data }

/-- A step from the Staging Queue's back entry: a VOID record leaves the queue and the head moves down; an IMAGE record is
in hand while its write-back is answered (R94). A PENDING entry cannot be taken (R91: every entry is READY). -/
def State.stageStep (s : State) (e : StagingEntry) : State :=
  match e.content with
  | .pending => s
  | .void => { s with log.staging := s.log.staging.dropLast, log.head := s.expectedSeq }
  | .image data =>
    { s with engine.hand := some { seq := s.expectedSeq, source := .staging, step := .writing } }.handWriteBack e.line data

/-- A step from the log region: the reads of the header line and of the image line are handed over (R95). DESIGN CHOICE
(log 30): the header's read is handed first. R95 hands both at one event, and neither it nor R129 says which comes first. -/
def State.regionStep (s : State) : State :=
  let a := s.win.slotAddr s.expectedSeq
  ({ s with engine.hand := some { seq := s.expectedSeq, source := .region, step := .reading none none } }.handOver
    { origin := .unwindHeader, dir := .read, addr := a, length := 8, beats := [] }).handOver
    { origin := .unwindImage, dir := .read, addr := a + 64#40, length := 8, beats := [] }

/-- One step of UNWIND begins: from the Staging Queue while it is not empty, then from the region (R93). -/
def State.beginStep (s : State) : State :=
  match s.log.staging.getLast? with
  | some e => s.stageStep e
  | none => s.regionStep

/-- Whether UNWIND stands between two steps. -/
def State.betweenSteps (s : State) : Bool := s.engine.phase == .unwind && s.engine.hand.isNone

/-! ### Completion (R98, R99) -/

/-- The frames above the target are removed, the tail moves to the head when none is left, and ROLLBACK_DONE is posted
(R98). -/
def State.popFrames (s : State) : State :=
  let removed := s.popped
  let s' := { s with frames.stack := s.frames.stack.take s.targetDepth }
  let s'' := if s'.depth = 0 then s'.reclaim s'.log.head else s'
  s''.post (.rollbackDone (removed.any (·.status == .broken)) removed.length s.engine.applied)
    ((removed.head?.map Frame.serial).getD 0#16)

/-- The answer owed to a control request is given at completion: the answer earned, or NO_FRAME (R99 item 1). -/
def State.giveOwed (s : State) (isPartial : Bool) : State :=
  match s.engine.owed with
  | .none => s
  | .rollback => s.answer (if isPartial then .partialDone else .done)
  | .noFrame => s.answer .noFrame

/-- The deadline counter is loaded when frames remain (R99 item 4). -/
def State.reloadIfFrames (s : State) : State := if s.depth = 0 then s else s.loadDeadline

/-- The completion of a rollback (R98, then R99 in its order). -/
def State.completeRollback (s : State) : State :=
  let isPartial := s.popped.any (·.status == .broken)
  let s' := ((s.popFrames.giveOwed isPartial).takeReservation.release .rollback).reloadIfFrames
  { s' with engine := engineIdle }

/-- UNWIND goes on between steps: it completes at the stop point, and otherwise begins the next step (R93, R97). The first
argument bounds the work: each round but the last takes a VOID record off the Staging Queue. -/
def State.unwindLoop : Nat → State → State
  | 0, s => s
  | n + 1, s =>
    if s.betweenSteps then
      if s.atStop then s.completeRollback else State.unwindLoop n s.beginStep
    else s

/-- UNWIND goes on as far as one event takes it. -/
def State.unwind (s : State) : State := State.unwindLoop (s.log.staging.length + 2) s

/-! ### The end of a step (R95, R96) -/

/-- A record is passed: the head moves down by one and the step ends. -/
def State.endStep (s : State) : State := { s with log.head := s.log.head - 1#32, engine.hand := none }

/-- Both reads of a step have been answered: an ERR enters FAILED; otherwise the record is verified and applied (R95). -/
def State.judgeReads (s : State) (h : Hand) (header image : LineResponse) : State :=
  match header, image with
  | .ok hd, .ok im =>
    match verifyRecord h.seq hd im with
    | .fails cause => s.enterFailed cause
    | .void => s.endStep
    | .image line data => { s with engine.hand := some { h with step := .writing } }.handWriteBack line data
  | _, _ => s.enterFailed .unwindRead

/-- The answer to one of the two reads of a step is recorded against the record in hand; the second lets the step go on
(R95). -/
def State.recordRead (s : State) (isHeader : Bool) (resp : LineResponse) : State :=
  match s.engine.hand with
  | some h =>
    match h.step with
    | .reading hd im =>
      let hd' := if isHeader then some resp else hd
      let im' := if isHeader then im else some resp
      match hd', im' with
      | some x, some y => s.judgeReads h x y
      | _, _ => { s with engine.hand := some { h with step := .reading hd' im' } }
    | .writing => s
  | none => s

/-- A write-back is answered: OK applies the record and ends the step, and a staging entry leaves the queue; ERR enters
FAILED (R96). -/
def State.recordWriteBack (s : State) (resp : MemStatus) : State :=
  match resp with
  | .err => s.enterFailed .unwindWrite
  | .ok =>
    match s.engine.hand with
    | none => s
    | some h =>
      let s' :=
        match h.source with
        | .staging => { s with log.staging := s.log.staging.dropLast }
        | .region => s
      { s'.endStep with engine.applied := s.engine.applied + 1 }

end Sys2Proof.Machine
end

