-- ==== Sys2Proof/Machine/Downstream.lean ====
section
/-! DEFINITION. The Downstream Port (chapter 8): eligibility, the arbiter, grants and responses. -/

namespace Sys2Proof.Machine

/-- The line that a slot's request touches; a FREE slot holds none (Table 8.1). -/
def DSlot.line? : DSlot → Option Addr
  | .free => none
  | .outstanding _ line _ => some line
  | .stale line => some line

/-- Whether a slot is FREE. -/
def DSlot.isFree : DSlot → Bool
  | .free => true
  | .outstanding _ _ _ | .stale _ => false

/-- The line of a waiting request: the line containing its address (08 section 8.1). -/
def Waiting.line (w : Waiting) : Addr := lineOf w.addr

/-- Whether some slot, OUTSTANDING or STALE, holds a request to a line (R130). -/
def lineBusy (slots : List DSlot) (line : Addr) : Bool := slots.any fun d => d.line? == some line

/-- The eligible requests among those waiting, in the order handed: no slot holds the line, and no request to the line
handed before is still waiting (R130). `seen` holds the lines of the requests handed before. -/
def eligibleFrom (slots : List DSlot) (seen : List Addr) : List Waiting → List Waiting
  | [] => []
  | w :: ws =>
    if lineBusy slots w.line || seen.contains w.line then eligibleFrom slots (w.line :: seen) ws
    else w :: eligibleFrom slots (w.line :: seen) ws

/-- The eligible requests of the Downstream Port. -/
def DownstreamPort.eligible (d : DownstreamPort) : List Waiting := eligibleFrom d.slots [] d.waiting

/-- The first of a list with the least age. -/
def oldestOf (age : Waiting → Nat) : List Waiting → Option Waiting
  | [] => none
  | w :: ws =>
    match oldestOf age ws with
    | none => some w
    | some v => if age v < age w then some v else some w

/-- The age of the entry that a passthrough request carries (R129). -/
def State.waitingAge (s : State) (w : Waiting) : Nat :=
  match w.origin with
  | .txn t => s.ageOf t
  | _ => 0

/-- The arbiter's choice: the first eligible request of the highest-priority source that has one, in the queue order of
Table 8.2 (R131). -/
def State.nextGrant (s : State) : Option Waiting :=
  let el := s.down.eligible
  (el.find? (·.origin.source == .rollback)).or
    ((el.find? (·.origin.source == .capture)).or
      ((el.find? (·.origin.source == .log)).or
        (oldestOf s.waitingAge (el.filter (·.origin.source == .passthrough)))))

/-- The FREE slot with the lowest tag (R131). -/
def DownstreamPort.lowestFree (d : DownstreamPort) : Option Nat := d.slots.findIdx? DSlot.isFree

/-- The beats that a request carries when it is issued: a passthrough request takes them from its entry (R129). -/
def State.issuedBeats (s : State) (w : Waiting) : List WriteBeat :=
  match w.origin with
  | .txn t => ((s.findTxn t).bind Txn.data).getD []
  | _ => w.beats

/-- The write data of an entry is kept until its downstream request is granted (Table 2.3). -/
def UpstreamPort.dataTaken (u : UpstreamPort) (o : Origin) : UpstreamPort :=
  match o with
  | .txn t => { u with txns := u.txns.map fun e => if e.tag == t then { e with data := none } else e }
  | _ => u

/-- A grant: slot `i` becomes OUTSTANDING with the request's origin and line, the request leaves its queue and is issued to
the memory controller with the slot's tag (R128, R131). -/
def State.grantDown (s : State) (w : Waiting) (i : Nat) : State :=
  { s with
    down.slots := s.down.slots.set i (.outstanding w.origin w.line false)
    down.waiting := s.down.waiting.erase w
    up := s.up.dataTaken w.origin
    obs.issued := s.obs.issued ++
      [{ tag := i, dir := w.dir, addr := w.addr, length := w.length, beats := s.issuedBeats w }] }

/-- Grants one after another until no FREE slot remains or no eligible request waits (R131). The number bounds them: each
grant takes one waiting request. -/
def State.arbitrateLoop : Nat → State → State
  | 0, s => s
  | n + 1, s =>
    match s.nextGrant, s.down.lowestFree with
    | some w, some i => State.arbitrateLoop n (s.grantDown w i)
    | _, _ => s

/-- The grants of one event. -/
def State.arbitrate (s : State) : State := State.arbitrateLoop s.down.waiting.length s

/-- The slot that a downstream tag names. -/
def State.dslot (s : State) (t : DTag) : DSlot := s.down.slots.getD t.toNat .free

/-- The slot with the response's tag becomes FREE (R128). -/
def State.freeDownSlot (s : State) (t : DTag) : State := { s with down.slots := s.down.slots.set t.toNat .free }

/-- A passthrough response answers its entry: OK with the data of a read, or MEMERR (R30, R132, R133). -/
def State.answerPassthrough (s : State) (t : Tag) (resp : MemResponse) : State :=
  match s.findTxn t with
  | none => s
  | some e =>
    match resp with
    | .err => s.finish t .memerr []
    | .ok data =>
      match e.dir with
      | .read => s.finish t .ok data
      | .write => s.finish t .ok []

/-- An OUTSTANDING slot becomes STALE at a hard reset and keeps its line (R135). -/
def DSlot.makeStale : DSlot → DSlot
  | .free => .free
  | .outstanding _ line _ => .stale line
  | .stale line => .stale line

end Sys2Proof.Machine
end

