-- ==== Sys2Proof/Machine/FaultUnit.lean ====
section
/-! DEFINITION. The Fault Unit (chapter 7): latches, actions, the timebase and the two timers that count ticks. -/

namespace Sys2Proof.Machine

/-- The latch of a fault line. -/
def Latches.get (l : Latches) : FaultLine → Bool
  | .flt0 => l.flt0
  | .flt1 => l.flt1
  | .flt2 => l.flt2
  | .flt3 => l.flt3

/-- The latch of one line takes a value; the others stay (R116). -/
def Latches.put (l : Latches) (line : FaultLine) (b : Bool) : Latches :=
  match line with
  | .flt0 => { l with flt0 := b }
  | .flt1 => { l with flt1 := b }
  | .flt2 => { l with flt2 := b }
  | .flt3 => { l with flt3 := b }

/-- The action in force for a fault line (R117). -/
def ActionTable.ofLine (a : ActionTable) : FaultLine → FaultAction
  | .flt0 => a.flt0
  | .flt1 => a.flt1
  | .flt2 => a.flt2
  | .flt3 => a.flt3

/-- FAULT_TAKEN with the source, the action carried out and the stack-empty mark, and the top serial (R118). -/
def State.postFault (s : State) (source : FaultSource) (action : FaultAction) : State :=
  s.post (.faultTaken source action (s.depth == 0)) s.topSerial

/-- A fault is acted on: by its action in ACTIVE (R118); in SETUP and FAILED every action but IGNORE is handled as NOTE
(R119). -/
def State.actOnFault (s : State) (source : FaultSource) (action : FaultAction) : State :=
  match s.mode.state with
  | .active =>
    match action with
    | .ignore => s
    | .note => s.postFault source .note
    | .abort => (s.postFault source .abort).requestAbort .top false
    | .abortAll => (s.postFault source .abortAll).requestAbort .all false
  | .setup | .failed =>
    match action with
    | .ignore => s
    | .note | .abort | .abortAll => s.postFault source .note

/-- A set latch is taken: it becomes clear and its fault is acted on (R117). -/
def State.takeLatch (s : State) (line : FaultLine) : State :=
  ({ s with flt.latches := s.flt.latches.put line false }).actOnFault (.line line) (s.flt.actions.ofLine line)

/-- The deadline expires: the counter stops with value 0 and the DEADLINE source is raised and acted on (R125). -/
def State.expireDeadline (s : State) : State :=
  ({ s with flt.deadline := timerStopped }).actOnFault .deadline s.flt.actions.deadline

/-- The hold timer counts a tick while it runs, and expires at the hold limit (R78). -/
def State.tickHold (s : State) : State :=
  if s.log.hold.running then
    let s' := { s with log.hold.value := s.log.hold.value + 1 }
    if s.mode.holdLimit ≤ s'.log.hold.value then s'.expireHold else s'
  else s

/-- The deadline counter counts a tick while it runs, and expires at 0 (R125). -/
def State.tickDeadline (s : State) : State :=
  if s.flt.deadline.running then
    let s' := { s with flt.deadline.value := s.flt.deadline.value - 1 }
    if s'.flt.deadline.value = 0 then s'.expireDeadline else s'
  else s

/-- A tick: the tick counter goes up by one, then the hold timer takes the tick, then the deadline counter (R123). DEDUCED
(log 18): the grants that an expiry of the hold time allows (R78) come with it, before the deadline counter takes the tick. -/
def State.tick (s : State) : State := ({ s with flt.ticks := s.flt.ticks + 1#32 }).tickHold.tickDeadline

/-- A rise of TREF: the pulse count goes up by one, and at the divisor returns to 0 with a tick (R123). -/
def State.countPulse (s : State) : State :=
  if s.flt.divisor ≤ s.flt.pulses + 1 then ({ s with flt.pulses := 0 }).tick
  else { s with flt.pulses := s.flt.pulses + 1 }

end Sys2Proof.Machine
end

