-- ==== Sys2Proof/Machine/Settle.lean ====
section
/-! DEFINITION. What comes about at the same event. The spec lets many internal steps take place "at the same event" or "at
the first event at which" their conditions hold (R7, R27, R29, R35, R46, R69, R91, R93, R97, R131). `State.settle` carries
out all of them, after the direct effect of a command (log 5); log 6 states the order. -/

namespace Sys2Proof.Machine

/-- The barrier completes when its set is empty (R7). -/
def State.barrierIfDone (s : State) : State :=
  match s.frames.barrier with
  | some [] => s.completeBarrier
  | some (_ :: _) | none => s

/-- QUIESCE ends when its three conditions hold (R91). -/
def State.quiesceIfOver (s : State) : State := if s.quiesceOver then s.endQuiesce else s

/-- Everything that is due at this event: turns and the request presented (R35), captures (R46), the barrier (R7), the log
writer (R69), the end of QUIESCE (R91), UNWIND and completion (R93, R97), then the arbiter's grants (R131). While RST_N is
low nothing is accepted, started or granted (R149). -/
def State.settle (s : State) : State :=
  if s.rstN then
    let s1 := s.wake.acceptPresented.grantCaptures.barrierIfDone.grantCaptures.startWriter
    s1.quiesceIfOver.unwind.grantCaptures.startWriter.arbitrate
  else s

end Sys2Proof.Machine
end

