-- ==== Sys2Proof/Machine/Link.lean ====
section
/-! DEFINITION. The management link's answers (chapter 10) and the Mode Controller's transitions (chapter 9), with the hard
reset. -/

namespace Sys2Proof.Machine

/-! ### Frames and answers (R150, R151) -/

/-- The link is receiving a frame whose bits so far are the first bits of the command's frame, so that the command can take
effect as the last of them is received (R150). A row of the table stands for the bits still to come (log 12). -/
def State.ready (s : State) (i : Instr) : Bool :=
  match s.link.frame, encodeFrame i with
  | .receiving bytes bits, some f => s.rstN && (frameBits bytes ++ bits).isPrefixOf (frameBits f)
  | _, _ => false

/-- A command is answered: the result byte, then its data (R151). `popping` says that an event record is shifted out. -/
def State.reply (s : State) (result : LinkResult) (data : List Byte) (popping : Bool := false) : State :=
  { s with link.frame := .answered (result.code :: data) popping 0 }

/-- The bit that a fall of SCK puts on SDO: the next bit of the response, most significant bit first, and 0 while a command is
received and after the response has ended (R150, R151). Where no frame is taken it is 0 (DESIGN CHOICE, log 29). -/
def LinkFrame.nextBit : LinkFrame → Bool
  | .answered response _ sent => (frameBits response).getD sent false
  | .absent | .receiving _ _ => false

/-- The flags byte of STATUS (Table 11.4). -/
def State.statusFlags (s : State) : Byte :=
  BitVec.ofNat 8
    (s.cap.sweep.inFlight.toNat + 2 * s.engine.phase.code + 8 * s.barrierInFlight.toNat + 16 * s.ctl.reserved.toNat +
      32 * s.log.hold.running.toNat + 64 * s.link.overrun.toNat)

/-- STATUS data, 8 bytes (Table 11.4, R153). -/
def State.statusBytes (s : State) : List Byte :=
  [s.mode.state.code, BitVec.ofNat 8 s.depth] ++ beBytes 2 s.topSerial.toNat ++ beBytes 3 s.logCount ++ [s.statusFlags]

/-- The popped record is removed: the queue shrinks by one, and the overrun flag clears when it is then empty (R157). -/
def LinkUnit.removeFront (l : LinkUnit) : LinkUnit :=
  { l with events := l.events.tail, overrun := l.overrun && !l.events.tail.isEmpty }

/-! ### Transitions of the operating state (chapter 9) -/

/-- A LEAVE_SETUP whose checks all pass (R140): the Window Table and the values in force are loaded from the setup table,
the pulse count returns to 0, the part enters ACTIVE and SETUP_LEFT is posted. -/
def State.activate (s : State) : State :=
  let t := s.mode.setup
  ({ s with
    win := loadWindows t
    mode.state := .active
    mode.logPolicy := setupLogPolicy t
    mode.holdLimit := setupHoldLimit t
    mode.depthPolicy := setupDepthPolicy t
    mode.reservation := setupReservation t
    flt.divisor := setupDivisor t
    flt.deadlineIn := setupDeadline t
    flt.actions := setupActions t
    flt.pulses := 0 }).post .setupLeft 0#16

/-- ENTER_SETUP from ACTIVE is carried out when the depth is 0, the engine is IDLE and no barrier is in flight (R142). -/
def State.mayEnterSetup (s : State) : Bool := s.depth == 0 && !s.rollingBack && !s.barrierInFlight

/-- The operating state becomes SETUP and the stack is empty (R142, R143). -/
def State.toSetup (s : State) : State := { s with mode.state := .setup, frames.stack := [] }

/-- RECOVER (R148): the stack is emptied, a sweep starts at 0, the part is ACTIVE, RECOVERED is posted. -/
def State.recovered (s : State) : State :=
  ({ s with mode.state := .active, frames.stack := [] }.startSweep).post .recovered 0#16

/-! ### Hard reset (R149) -/

/-- A hard reset: every block takes its hard-reset values. What is outside the part or kept by its rule stays: the levels of
CREQ and CS_N, the request presented (R38), the Capture Map (R60), the lines of the downstream slots (R135), the model's
record of the outputs and the queues of commands and of SCK edges. At power-up the map is unknown and every downstream slot
is FREE. -/
def State.hardReset (s : State) (cause : ResetCause) : State :=
  { State.reset with
    up.presented := s.up.presented
    cap.map :=
      match cause with
      | .rstLow => s.cap.map
      | .powerUp => s.cap.map.lost
    ctl.creq := s.ctl.creq
    down.slots :=
      match cause with
      | .rstLow => s.down.slots.map DSlot.makeStale
      | .powerUp => State.reset.down.slots
    link.csN := s.link.csN
    rstN :=
      match cause with
      | .rstLow => false
      | .powerUp => s.rstN
    obs := s.obs
    pending := s.pending
    wire := s.wire }

/-- One clearing of the sweep; the clearing of entry 32,767 ends it and posts SWEEP_DONE (R56). -/
def State.sweepOne (s : State) : State :=
  let p := s.cap.sweep.position
  let s' := { s with cap.map := s.cap.map.clear p }
  if p + 1 < Config.mapEntries then { s' with cap.sweep.position := p + 1 }
  else ({ s' with cap.sweep := { inFlight := false, position := Config.mapEntries } }).post .sweepDone 0#16

end Sys2Proof.Machine
end

