-- ==== Sys2Proof/Machine/CaptureCommands.lean ====
section
/-! DEFINITION. The events of the Frame Stack and of the Capture Unit that the table lists as rows (chapters 1 and 3). -/

namespace Sys2Proof.Machine

/-- BARRIER_COMPLETION (R7): the barrier set is empty and the OPEN is decided. -/
def execBarrierCompletion (s : State) : Host.Outcome State Fault Refusal :=
  .next (if s.rstN && s.frames.barrier == some [] then s.completeBarrier.settle else s)

/-- CAPTURE_GRANT (R46, R47): the oldest waiting write asks for a grant. -/
def execCaptureGrant (s : State) : Host.Outcome State Fault Refusal :=
  .next (if !s.cap.waitList.isEmpty && s.canAsk then s.grantCaptures.settle else s)

/-- PRE_IMAGE_RESPONSE (R49): the response to a pre-image read frees its downstream slot and completes the capture. -/
def execPreImageResponse (tag : DTag) (resp : LineResponse) (s : State) : Host.Outcome State Fault Refusal :=
  .next (match s.dslot tag with
    | .outstanding (.slot i) _ false => ((s.freeDownSlot tag).completeCapture i resp).settle
    | _ => s)

/-- SWEEP_CLEAR (R56): the sweep clears one entry. While RST_N is low it stands still (log 9). -/
def execSweepClear (s : State) : Host.Outcome State Fault Refusal :=
  .next (if s.rstN && s.cap.sweep.inFlight then s.sweepOne else s)

end Sys2Proof.Machine
end

