-- ==== Sys2Proof/Machine/ControlCommands.lean ====
section
/-! DEFINITION. The commands of the control port (chapter 6): OPEN, COMMIT, ABORT, ABORT_ALL, and the handshake. -/

namespace Sys2Proof.Machine

/-- CREQ goes high (R104). -/
def State.raiseCreq (s : State) : State := { s with ctl.creq := true }

/-- A rise of CREQ is taken: the code is recorded as the request in hand and the state becomes WORKING (R104). -/
def State.takeRequest (s : State) (req : CtlRequest) : State :=
  { s with ctl.creq := true, ctl.handshake := .working req }

/-- A request taken is dealt with by its owner in ACTIVE and answered OFFLINE in SETUP and FAILED (R105). -/
def State.dealWith (s : State) (owner : State → State) : State :=
  match s.mode.state with
  | .active => owner s
  | .setup | .failed => s.answer .offline

/-- A rise of CREQ with a request's code. With CREQ high already there is no rise. It is taken when the handshake is IDLE;
otherwise, and while RST_N is low, the rise is ignored and only the level changes (R103, R104). -/
def State.controlRise (s : State) (req : CtlRequest) (owner : State → State) : State :=
  if s.ctl.creq then s
  else if s.rstN && s.ctl.handshake == .idle then ((s.takeRequest req).dealWith owner).settle
  else s.raiseCreq

/-- An OPEN in ACTIVE: it begins a barrier, or is answered RESERVED or BUSY while a rollback is in flight (R5, R108). -/
def State.dealOpen (s : State) : State := if s.rollingBack then s.reserveOrBusy else s.beginBarrier

/-- A COMMIT in ACTIVE: BUSY, NO_FRAME, or the top frame committed and DONE (R13, R109). -/
def State.dealCommit (s : State) : State :=
  if s.rollingBack then s.answer .busy
  else if s.depth = 0 then s.answer .noFrame
  else s.commitTop.answer .done

/-- OPEN (R108). -/
def execOpen (s : State) : Host.Outcome State Fault Refusal := .next (s.controlRise .openFrame State.dealOpen)

/-- COMMIT (R13). -/
def execCommit (s : State) : Host.Outcome State Fault Refusal := .next (s.controlRise .commit State.dealCommit)

/-- ABORT (R110). -/
def execAbort (s : State) : Host.Outcome State Fault Refusal :=
  .next (s.controlRise .abort fun s' => s'.requestAbort .top true)

/-- ABORT_ALL (R110). -/
def execAbortAll (s : State) : Host.Outcome State Fault Refusal :=
  .next (s.controlRise .abortAll fun s' => s'.requestAbort .all true)

/-- CREQ_RISE_IGNORED (R104): a rise in WORKING or ANSWERED, or while RST_N is low, changes the level of CREQ and nothing
else. -/
def execCreqRiseIgnored (s : State) : Host.Outcome State Fault Refusal :=
  .next (if s.ctl.creq || (s.rstN && s.ctl.handshake == .idle) then s else s.raiseCreq)

/-- The handshake after a fall of CREQ: ANSWERED returns to IDLE, WORKING goes on (R106, R107). -/
def Handshake.afterFall : Handshake → Handshake
  | .answered _ => .idle
  | .idle => .idle
  | .working r => .working r

/-- CREQ_FALL (R106, R107): a fall in ANSWERED lowers CACK and returns the port to IDLE; a fall in WORKING is an early
withdrawal with no effect on the request. -/
def execCreqFall (s : State) : Host.Outcome State Fault Refusal :=
  .next (if s.ctl.creq then { s with ctl.creq := false, ctl.handshake := s.ctl.handshake.afterFall } else s)

/-- RELEASE (R107): with the answer given and CREQ still low, the port lowers CACK and returns to IDLE. If CREQ has risen
again, CACK stays high until CREQ falls. -/
def execRelease (s : State) : Host.Outcome State Fault Refusal :=
  .next (if s.cack && !s.ctl.creq then { s with ctl.handshake := .idle } else s)

end Sys2Proof.Machine
end

