-- ==== Sys2Proof/Machine/DownstreamCommands.lean ====
section
/-! DEFINITION. The events of the Downstream Port (chapter 8), and the hard reset with its end (chapter 9). -/

namespace Sys2Proof.Machine

/-- DOWNSTREAM_GRANT (R131): the arbiter grants what it can. No request is granted while RST_N is low (R135). -/
def execDownstreamGrant (s : State) : Host.Outcome State Fault Refusal := .next (if s.rstN then s.arbitrate else s)

/-- PASSTHROUGH_RESPONSE (R132, R133): the host entry is answered. -/
def execPassthroughResponse (tag : DTag) (resp : MemResponse) (s : State) : Host.Outcome State Fault Refusal :=
  .next (match s.dslot tag with
    | .outstanding (.txn t) _ false => ((s.freeDownSlot tag).answerPassthrough t resp).settle
    | _ => s)

/-- DISCARDED_RESPONSE (R128, R134, R135): the response for a STALE or dropped slot frees the slot and tells no block; one
that names a FREE slot changes nothing. -/
def execDiscardedResponse (tag : DTag) (s : State) : Host.Outcome State Fault Refusal :=
  .next (match s.dslot tag with
    | .stale _ => (s.freeDownSlot tag).settle
    | .outstanding _ _ true => (s.freeDownSlot tag).settle
    | .outstanding _ _ false | .free => s)

/-- HARD_RESET (R149). While RST_N is low nothing is due, so `settle` matters only at a power-up with RST_N high. -/
def execHardReset (cause : ResetCause) (s : State) : Host.Outcome State Fault Refusal := .next (s.hardReset cause).settle

/-- RST_N_RISE (R149): the hard reset ends; a request presented is considered for acceptance in SETUP (R38). -/
def execRstNRise (s : State) : Host.Outcome State Fault Refusal :=
  .next (if s.rstN then s else ({ s with rstN := true }).settle)

end Sys2Proof.Machine
end

