-- ==== Sys2Proof/Machine/FaultCommands.lean ====
section
/-! DEFINITION. The commands of the Fault Unit and of the two timers (chapters 4 and 7). -/

namespace Sys2Proof.Machine

/-- FAULT_LINE_RISE (R116): the line's latch is set; a rise while it is set is merged. While RST_N is low a rise has no
effect. -/
def execFaultLineRise (line : FaultLine) (s : State) : Host.Outcome State Fault Refusal :=
  .next (if s.rstN then { s with flt.latches := s.flt.latches.put line true } else s)

/-- TAKE_FAULT (R117): a set latch is taken, cleared, and its fault acted on. -/
def execTakeFault (line : FaultLine) (s : State) : Host.Outcome State Fault Refusal :=
  .next (if s.rstN && s.flt.latches.get line then (s.takeLatch line).settle else s)

/-- TREF_PULSE (R123): a rise of TREF. While RST_N is low it has no effect. -/
def execTrefPulse (s : State) : Host.Outcome State Fault Refusal := .next (if s.rstN then s.countPulse.settle else s)

/-- Whether the hold timer has reached the hold limit (R78). -/
def State.holdDue (s : State) : Bool :=
  s.rstN && s.log.hold.running && decide (s.mode.holdLimit ≤ s.log.hold.value)

/-- HOLD_EXPIRED (R78): a hold timer that has reached the hold limit expires. -/
def execHoldExpired (s : State) : Host.Outcome State Fault Refusal :=
  .next (if s.holdDue then s.expireHold.settle else s)

/-- Whether the running deadline counter has reached 0 (R125). -/
def State.deadlineDue (s : State) : Bool := s.rstN && s.flt.deadline.running && s.flt.deadline.value == 0

/-- DEADLINE_EXPIRY (R125): a deadline counter that has reached 0 expires. -/
def execDeadlineExpiry (s : State) : Host.Outcome State Fault Refusal :=
  .next (if s.deadlineDue then s.expireDeadline.settle else s)

end Sys2Proof.Machine
end

