-- ==== Sys2Proof/Machine/LinkCommands.lean ====
section
/-! DEFINITION. The commands of the management link (chapters 9 and 10). Each takes effect while the link receives a frame
that its own frame can complete; otherwise no such command is received and the state stays (R150). -/

namespace Sys2Proof.Machine

/-- CS_N_FALL (R150): a new frame begins, and SDO is driven with 0 (R151). While RST_N is low the link takes no frame, so a
frame begun then is ignored; the bit held for SDO is then 0 too (DESIGN CHOICE, log 29). -/
def execCsNFall (s : State) : Host.Outcome State Fault Refusal :=
  .next (if s.link.csN then
    { s with link.csN := false, link.frame := if s.rstN then .receiving [] [] else .absent, link.sdo := false }
  else s)

/-- CS_N_RISE (R150): the frame ends; a command not wholly received has no effect, and a record not wholly shifted out
stays in the queue (R157). -/
def execCsNRise (s : State) : Host.Outcome State Fault Refusal :=
  .next (if s.link.csN then s else { s with link.csN := true, link.frame := .absent })

/-- STATUS (R153). -/
def execStatus (s : State) : Host.Outcome State Fault Refusal :=
  .next (if s.ready .status then s.reply .ack s.statusBytes else s)

/-- EVENT_POP (R157): the front record is shifted out, or the queue is EMPTY. -/
def execEventPop (s : State) : Host.Outcome State Fault Refusal :=
  .next (if s.ready .eventPop then
    match s.link.events with
    | [] => s.reply .empty []
    | e :: _ => s.reply .ack e.bytes true
  else s)

/-- EVENT_REMOVED (R157): the last bit of the popped record is shifted out, and the record is removed. DESIGN CHOICE
(log 12): the row, sent with bits still to go, stands for the rises that shift them out and for none of the falls between
them, so the bit that SDO shows stays what it was, and not the record's last bit. -/
def execEventRemoved (s : State) : Host.Outcome State Fault Refusal :=
  .next (match s.link.frame with
    | .answered response true _ =>
      if s.rstN then
        { s with link := { s.link.removeFront with frame := .answered response false (8 * response.length) } }
      else s
    | .answered _ false _ | .absent | .receiving _ _ => s)

/-- FRAME_READ (R153): the frame record at an index from the bottom, or BAD_ITEM. -/
def execFrameRead (index : Byte) (s : State) : Host.Outcome State Fault Refusal :=
  .next (if s.ready (.frameRead index) then
    match s.frames.stack[index.toNat]? with
    | some f => s.reply .ack f.bytes
    | none => s.reply .badItem []
  else s)

/-- SETUP_READ (R154): the item's value as the setup table holds it, or BAD_ITEM. -/
def execSetupRead (item : Byte) (s : State) : Host.Outcome State Fault Refusal :=
  .next (if s.ready (.setupRead item) then
    if item.toNat < Config.setupItems then s.reply .ack (itemBytes (setupItem s.mode.setup item.toNat))
    else s.reply .badItem []
  else s)

/-- SETUP_WRITE (R154, R160): tested for state, item and value in this order (R152). -/
def execSetupWrite (item : Byte) (value : ItemValue) (s : State) : Host.Outcome State Fault Refusal :=
  .next (if s.ready (.setupWrite item value) then
    if s.mode.state ≠ .setup then s.reply .wrongState []
    else if Config.setupItems ≤ item.toNat then s.reply .badItem []
    else if !itemInRange item.toNat value then s.reply .badValue []
    else ({ s with mode.setup := s.mode.setup.set item.toNat value }).reply .ack []
  else s)

/-- ENTER_SETUP (R142, R143). -/
def execEnterSetup (s : State) : Host.Outcome State Fault Refusal :=
  .next (if s.ready .enterSetup then
    match s.mode.state with
    | .setup => s.reply .wrongState []
    | .active => if s.mayEnterSetup then s.toSetup.reply .ack [] else s.reply .busy []
    | .failed => s.toSetup.reply .ack []
  else s)

/-- LEAVE_SETUP (R139, R140). -/
def execLeaveSetup (s : State) : Host.Outcome State Fault Refusal :=
  .next (if s.ready .leaveSetup then
    match s.mode.state with
    | .setup =>
      match validateSetup s.mode.setup with
      | some detail => s.reply .invalidSetup [detail.code]
      | none => (s.activate.reply .ack []).settle
    | .active | .failed => s.reply .wrongState []
  else s)

/-- RECOVER (R148). -/
def execRecover (s : State) : Host.Outcome State Fault Refusal :=
  .next (if s.ready .recover then
    match s.mode.state with
    | .failed => (s.recovered.reply .ack []).settle
    | .setup | .active => s.reply .wrongState []
  else s)

/-- The action that FORCE_ABORT's operand codes (Table 11.2); none for any other byte. -/
def forceOperand (operand : Byte) : Option FaultAction :=
  if operand = 0x00#8 then some .abort else if operand = 0x01#8 then some .abortAll else none

/-- FORCE_ABORT (R155): in ACTIVE with a valid operand it raises the SUPERVISOR source (R120). -/
def execForceAbort (operand : Byte) (s : State) : Host.Outcome State Fault Refusal :=
  .next (if s.ready (.forceAbort operand) then
    match s.mode.state with
    | .active =>
      match forceOperand operand with
      | some action => ((s.reply .ack []).actOnFault .supervisor action).settle
      | none => s.reply .badValue []
    | .setup | .failed => s.reply .wrongState []
  else s)

/-- UNKNOWN_COMMAND (R150): a byte that names no command is answered BAD_VALUE. A byte that names one is another row. -/
def execUnknownCommand (code : Byte) (s : State) : Host.Outcome State Fault Refusal :=
  .next (if s.ready (.unknownCommand code) && (operandCount code).isNone then s.reply .badValue [] else s)

end Sys2Proof.Machine
end

