-- ==== Sys2Proof/Machine/LogCommands.lean ====
section
/-! DEFINITION. The events of the log writer (chapter 4). -/

namespace Sys2Proof.Machine

/-- LOG_WRITER_START (R69): the writer starts on the READY front entry. -/
def execLogWriterStart (s : State) : Host.Outcome State Fault Refusal :=
  .next (match s.writerFront with
    | some e => (s.beginAttempt e .first).settle
    | none => s)

/-- LOG_WRITE_RESPONSE (R70): the response to one of the attempt's two writes. -/
def execLogWriteResponse (tag : DTag) (resp : MemStatus) (s : State) : Host.Outcome State Fault Refusal :=
  .next (match s.dslot tag with
    | .outstanding .logHeader _ false => ((s.freeDownSlot tag).countLogAnswer resp).settle
    | .outstanding .logImage _ false => ((s.freeDownSlot tag).countLogAnswer resp).settle
    | _ => s)

end Sys2Proof.Machine
end

