-- ==== Sys2Proof/Machine/RollbackCommands.lean ====
section
/-! DEFINITION. The events of the Rollback Engine (chapter 5). -/

namespace Sys2Proof.Machine

/-- QUIESCE_END (R91): the three conditions hold, and the phase becomes UNWIND. -/
def execQuiesceEnd (s : State) : Host.Outcome State Fault Refusal :=
  .next (if s.rstN && s.quiesceOver then s.endQuiesce.settle else s)

/-- UNWIND_STEP (R93 to R95): between two steps, with the stop point not reached, the next step begins. -/
def execUnwindStep (s : State) : Host.Outcome State Fault Refusal :=
  .next (if s.rstN && s.betweenSteps && !s.atStop then s.beginStep.settle else s)

/-- UNWIND_READ_RESPONSE (R95): the response to one of a step's two reads. -/
def execUnwindReadResponse (tag : DTag) (resp : LineResponse) (s : State) : Host.Outcome State Fault Refusal :=
  .next (match s.dslot tag with
    | .outstanding .unwindHeader _ false => ((s.freeDownSlot tag).recordRead true resp).settle
    | .outstanding .unwindImage _ false => ((s.freeDownSlot tag).recordRead false resp).settle
    | _ => s)

/-- WRITE_BACK_RESPONSE (R96): the response to a write-back. -/
def execWriteBackResponse (tag : DTag) (resp : MemStatus) (s : State) : Host.Outcome State Fault Refusal :=
  .next (match s.dslot tag with
    | .outstanding .writeBack _ false => ((s.freeDownSlot tag).recordWriteBack resp).settle
    | _ => s)

/-- ROLLBACK_COMPLETION (R98, R99): between two steps, with the stop point reached, the rollback completes. -/
def execRollbackCompletion (s : State) : Host.Outcome State Fault Refusal :=
  .next (if s.rstN && s.betweenSteps && s.atStop then s.completeRollback.settle else s)

end Sys2Proof.Machine
end

