-- ==== Sys2Proof/Machine/UpstreamCommands.lean ====
section
/-! DEFINITION. The command of the upstream port: ACCEPT_REQUEST (chapter 2). -/

namespace Sys2Proof.Machine

/-- The host presents a request. It presents the next one only after the 2460 has accepted the one before (02 section 2.2),
so a second request while one waits is not presented (log 7). -/
def State.present (s : State) (r : Request) : State :=
  match s.up.presented with
  | some _ => s
  | none => { s with up.presented := some r }

/-- ACCEPT_REQUEST (R27): the request is presented, and accepted when the conditions of R27 hold; otherwise it stays
presented. -/
def execAcceptRequest (r : Request) (s : State) : Host.Outcome State Fault Refusal := .next (s.present r).settle

end Sys2Proof.Machine
end

