-- ==== Sys2Proof/Machine/Dispatch.lean ====
section
/-! DEFINITION. The meaning of each command. -/

namespace Sys2Proof.Machine

def exec (i : Instr) (s : State) : Host.Outcome State Fault Refusal :=
  match i with
  | .acceptRequest r => Sys2Proof.Machine.execAcceptRequest r s
  | .openFrame => Sys2Proof.Machine.execOpen s
  | .commit => Sys2Proof.Machine.execCommit s
  | .abort => Sys2Proof.Machine.execAbort s
  | .abortAll => Sys2Proof.Machine.execAbortAll s
  | .creqRiseIgnored => Sys2Proof.Machine.execCreqRiseIgnored s
  | .creqFall => Sys2Proof.Machine.execCreqFall s
  | .release => Sys2Proof.Machine.execRelease s
  | .faultLineRise line => Sys2Proof.Machine.execFaultLineRise line s
  | .takeFault line => Sys2Proof.Machine.execTakeFault line s
  | .trefPulse => Sys2Proof.Machine.execTrefPulse s
  | .holdExpired => Sys2Proof.Machine.execHoldExpired s
  | .deadlineExpiry => Sys2Proof.Machine.execDeadlineExpiry s
  | .hardReset cause => Sys2Proof.Machine.execHardReset cause s
  | .status => Sys2Proof.Machine.execStatus s
  | .eventPop => Sys2Proof.Machine.execEventPop s
  | .eventRemoved => Sys2Proof.Machine.execEventRemoved s
  | .frameRead index => Sys2Proof.Machine.execFrameRead index s
  | .setupRead item => Sys2Proof.Machine.execSetupRead item s
  | .setupWrite item value => Sys2Proof.Machine.execSetupWrite item value s
  | .enterSetup => Sys2Proof.Machine.execEnterSetup s
  | .leaveSetup => Sys2Proof.Machine.execLeaveSetup s
  | .recover => Sys2Proof.Machine.execRecover s
  | .forceAbort operand => Sys2Proof.Machine.execForceAbort operand s
  | .unknownCommand code => Sys2Proof.Machine.execUnknownCommand code s
  | .csNRise => Sys2Proof.Machine.execCsNRise s
  | .barrierCompletion => Sys2Proof.Machine.execBarrierCompletion s
  | .captureGrant => Sys2Proof.Machine.execCaptureGrant s
  | .passthroughResponse tag resp => Sys2Proof.Machine.execPassthroughResponse tag resp s
  | .preImageResponse tag resp => Sys2Proof.Machine.execPreImageResponse tag resp s
  | .logWriterStart => Sys2Proof.Machine.execLogWriterStart s
  | .logWriteResponse tag resp => Sys2Proof.Machine.execLogWriteResponse tag resp s
  | .quiesceEnd => Sys2Proof.Machine.execQuiesceEnd s
  | .unwindStep => Sys2Proof.Machine.execUnwindStep s
  | .unwindReadResponse tag resp => Sys2Proof.Machine.execUnwindReadResponse tag resp s
  | .writeBackResponse tag resp => Sys2Proof.Machine.execWriteBackResponse tag resp s
  | .rollbackCompletion => Sys2Proof.Machine.execRollbackCompletion s
  | .downstreamGrant => Sys2Proof.Machine.execDownstreamGrant s
  | .discardedResponse tag => Sys2Proof.Machine.execDiscardedResponse tag s
  | .sweepClear => Sys2Proof.Machine.execSweepClear s
  | .csNFall => Sys2Proof.Machine.execCsNFall s
  | .rstNRise => Sys2Proof.Machine.execRstNRise s

end Sys2Proof.Machine
end

