-- ==== Sys2Proof/Machine/Serial.lean ====
section
/-! DEFINITION. The edges of SCK (R150, R151, R157): what a frame on the management link is made of. -/

namespace Sys2Proof.Machine

/-- A rise of SCK while a command is received samples SDI (R150). A byte is received with its eighth bit; the command takes
effect with the last byte of its frame, under the state as it stands then. -/
def State.receiveBit (s : State) (bytes : List Byte) (bits : List Bool) (sdi : Bool) :
    Host.Outcome State Fault Refusal :=
  if bits.length < 7 then .next { s with link.frame := .receiving bytes (bits ++ [sdi]) }
  else
    let received := bytes ++ [byteOfBits (bits ++ [sdi])]
    match decodeFrame received with
    | some i => exec i s
    | none => .next { s with link.frame := .receiving received [] }

/-- A rise of SCK while a response is sent shifts a bit of it out (R150). The last bit of a popped record removes the record
(R157). After the response has ended nothing is counted any longer (R151). -/
def State.shiftOut (s : State) (response : List Byte) (popping : Bool) (sent : Nat) :
    Host.Outcome State Fault Refusal :=
  if popping && sent + 1 == 8 * response.length then exec .eventRemoved s
  else .next { s with link.frame := .answered response popping (min (sent + 1) (8 * response.length)) }

/-- A rise of SCK with SDI at the level `sdi`. Where no frame is taken it is ignored (R150). -/
def State.sckRise (s : State) (sdi : Bool) : Host.Outcome State Fault Refusal :=
  match s.link.frame with
  | .absent => .next s
  | .receiving bytes bits => if s.rstN then s.receiveBit bytes bits sdi else .next s
  | .answered response popping sent => if s.rstN then s.shiftOut response popping sent else .next s

/-- A fall of SCK: SDO changes to the next bit to send (R150). -/
def State.sckFall (s : State) : State := { s with link.sdo := s.link.frame.nextBit }

/-- An edge of SCK. -/
def execEdge (e : SckEdge) (s : State) : Host.Outcome State Fault Refusal :=
  match e with
  | .rise sdi => s.sckRise sdi
  | .fall => .next s.sckFall

end Sys2Proof.Machine
end

