-- ==== Sys2Proof/Safety.lean ====
section
/-! DEFINITION. The terms in which claims are stated: when nothing is due, and what holds of every state of a run. -/

namespace Sys2Proof.Machine

/-! ### Nothing is due

Each condition says of one of the parts of `State.settle` that it has nothing to do. -/

/-- No entry in WAIT_LINE has its turn (R29). -/
def State.turnsSettled (s : State) : Bool := s.up.txns.all fun e => !(e.stage == .waitLine && s.hasTurn e)

/-- No request is presented that the conditions of R27 would accept. -/
def State.nothingToAccept (s : State) : Bool :=
  match s.up.presented with
  | none => true
  | some r => !s.canAccept r

/-- No waiting write can be granted (R46): none waits, the oldest cannot ask, or it has been refused under WAIT and the
hold timer runs (R77). -/
def State.nothingToGrant (s : State) : Bool :=
  s.cap.waitList.isEmpty || !s.canAsk ||
    (decide (s.win.capacity ≤ s.logCount) && s.mode.logPolicy == .wait && s.log.hold.running)

/-- No turn, acceptance or grant of a capture is due. -/
def State.upstreamCalm (s : State) : Bool := s.turnsSettled && s.nothingToAccept && s.nothingToGrant

/-- Besides those, no barrier has ended (R7), no record write can start (R69) and QUIESCE is not over (R91). -/
def State.calmBeforeUnwind (s : State) : Bool :=
  s.upstreamCalm && s.frames.barrier != some [] && s.writerFront.isNone && !s.quiesceOver

/-- Besides those, UNWIND does not stand between two steps (R93): nothing is due but the arbiter's grants. -/
def State.calm (s : State) : Bool := s.calmBeforeUnwind && !s.betweenSteps

/-- The arbiter has no grant to make (R131): no FREE slot or no eligible request. -/
def State.portIdle (s : State) : Bool := s.down.lowestFree.isNone || s.down.eligible.isEmpty

/-- Nothing at all is due. -/
def State.steady (s : State) : Bool := s.calm && s.portIdle

/-! ### What holds of every state of a run -/

/-- Sixteen slots, and no two of them hold the same line (R128, R130). -/
def State.lineOrder (s : State) : Bool :=
  s.down.slots.length == Config.downstreamSlots && decide (s.down.slots.filterMap DSlot.line?).Nodup

/-- The arbiter leaves no grant undone (R131), while RST_N is high (R135). -/
def State.arbiterDone (s : State) : Bool := !s.rstN || s.portIdle

/-- No turn and no acceptance is left undone (R29, R35), while RST_N is high. -/
def State.upstreamDone (s : State) : Bool := !s.rstN || (s.turnsSettled && s.nothingToAccept)

/-- At most sixteen entries, with distinct tags, in order of age (R27). -/
def State.tableOk (s : State) : Bool :=
  decide (s.up.txns.length ≤ Config.transactions) && decide (s.up.txns.map Txn.tag).Nodup &&
    decide ((s.up.txns.map Txn.age).Pairwise (· < ·)) && s.up.txns.all fun e => decide (e.age < s.up.nextAge)

/-- At most 32 events, and the overrun flag stands only beside a queued event (R156, R157). -/
def State.eventsOk (s : State) : Bool :=
  decide (s.link.events.length ≤ Config.eventQueue) && (!s.link.overrun || !s.link.events.isEmpty)

/-- Bytes received belong to a command that has operand bytes yet to come, or its command byte (Table 10.1). -/
def moreToCome : List Byte → Bool
  | [] => true
  | code :: operands => (operandCount code).any fun n => decide (operands.length < n)

/-- A frame is in progress only while CS_N is low and RST_N is high (R150). The bytes received so far are the first ones of
a command that has more (Table 10.1), with fewer than eight bits of the next (R150); no more bits
of a response are counted than it has (R151), and a record being shifted out still has a bit to go (R157). -/
def State.linkOk (s : State) : Bool :=
  match s.link.frame with
  | .absent => true
  | .receiving bytes bits =>
    !s.link.csN && s.rstN && decide (bits.length < 8) && moreToCome bytes
  | .answered response popping sent =>
    !s.link.csN && s.rstN && !response.isEmpty && decide (sent ≤ 8 * response.length) &&
      (!popping || decide (sent < 8 * response.length))

/-- The setup table holds twenty items, each in range (R160). -/
def State.setupOk (s : State) : Bool :=
  s.mode.setup.length == Config.setupItems &&
    (List.range Config.setupItems).all fun n => itemInRange n (setupItem s.mode.setup n)

/-- Every frame below a BROKEN frame is BROKEN (R14). -/
def brokenBelow : List Frame → Bool
  | [] => true
  | f :: rest => (f.status == .broken || rest.all fun g => g.status == .intact) && brokenBelow rest

/-- At most eight frames, with distinct serials from 1 on, no INTACT frame below a BROKEN one, at most seven serials held,
and a target of at most 7 (R2, R3, R14, R98). -/
def State.stackOk (s : State) : Bool :=
  decide (s.depth ≤ Config.maxDepth) && decide (s.frames.stack.map Frame.serial).Nodup &&
    s.frames.stack.all (fun f => f.serial != 0#16) && brokenBelow s.frames.stack &&
    decide (s.frames.held.length < Config.maxDepth) && decide (s.targetDepth < Config.maxDepth)

/-- The four capture slots, at most eight staged records, the map in its canonical form, and a sweep in flight that still has
an entry to clear (R45, R67, R40, R56). -/
def State.captureLogOk (s : State) : Bool :=
  s.cap.slots.length == Config.captureSlots && decide (s.log.staging.length ≤ Config.stagingEntries) && s.cap.map.wf &&
    (!s.cap.sweep.inFlight || decide (s.cap.sweep.position < Config.mapEntries))

/-- What the operating state and the phase imply: outside ACTIVE there is no barrier, no rollback and no record (R141, R17,
R101); SETUP has no frame, FAILED no INTACT one (R141, R17); an empty stack with no rollback has no record (R64); in IDLE
every item of the engine is at its IDLE value (R83); a reservation needs a rollback (R113). -/
def State.modeOk (s : State) : Bool :=
  (s.mode.state == .active || (s.frames.barrier.isNone && !s.rollingBack && s.log.head == s.log.tail)) &&
    (s.mode.state != .setup || s.frames.stack.isEmpty) &&
    (s.mode.state != .failed || s.frames.stack.all fun f => f.status == .broken) &&
    (!s.frames.stack.isEmpty || s.rollingBack || s.log.head == s.log.tail) &&
    (s.rollingBack || s.engine == engineIdle) && (!s.ctl.reserved || s.rollingBack)

end Sys2Proof.Machine
end

