-- ==== Sys2Proof/WellFormed.lean ====
section
/-! DEFINITION. Which commands an interface can carry: the checks the operand types do not make by themselves. -/

namespace Sys2Proof

/-- A write carries one beat of data for each beat of its length, and a read carries none (02 section 2.2). -/
def Request.wf (r : Request) : Bool :=
  match r.dir with
  | .read => r.beats.isEmpty
  | .write => r.beats.length == r.length

/-- A byte names a command when it is one of the codes 0x01 to 0x09 of Table 11.2. -/
def namesCommand (code : Byte) : Bool :=
  decide (1 ≤ code.toNat) && decide (code.toNat ≤ 9)

/-- A memory response carries at most the 8 beats of the longest request (08 section 8.1). -/
def MemResponse.wf : MemResponse → Bool
  | .ok data => decide (data.length ≤ 8)
  | .err => true

/-- The commands that an interface of the 2460 can carry. -/
def Instr.wf : Instr → Bool
  | .acceptRequest r => r.wf
  | .unknownCommand code => !namesCommand code
  | .passthroughResponse _ resp => resp.wf
  | .openFrame | .commit | .abort | .abortAll | .creqRiseIgnored | .creqFall | .release => true
  | .faultLineRise _ | .takeFault _ | .trefPulse | .holdExpired | .deadlineExpiry => true
  | .hardReset _ | .status | .eventPop | .eventRemoved | .frameRead _ | .setupRead _ | .setupWrite _ _ => true
  | .enterSetup | .leaveSetup | .recover | .forceAbort _ | .csNRise | .barrierCompletion | .captureGrant => true
  | .preImageResponse _ _ | .logWriterStart | .logWriteResponse _ _ | .quiesceEnd | .unwindStep => true
  | .unwindReadResponse _ _ | .writeBackResponse _ _ | .rollbackCompletion | .downstreamGrant => true
  | .discardedResponse _ | .sweepClear | .csNFall | .rstNRise => true

end Sys2Proof
end

