-- ==== Sys2Proof/Certificates/Slice0/Obligations.lean ====
section
/-! DEFINITION. The statements about the 2460. Those about one command read: under hypotheses on the state and the operands
alone, `exec` answers a next state, and here it is. The effect of a command, written out field by field as an update of the
state, is either given in the statement or named just before it (`Effect.…`); what an update does not name is unchanged. An
event's consequences (`State.settle`, logs 5 and 6) end with the arbiter's grants. `Effect.Gives` says that the next state is
`u.settle`, where `u` is the state with the effect, and that it is `u.arbitrate` where `u.calm` says that nothing but those
grants is due in `u`. What `arbitrate` grants is the subject of `Obligations.GrantsFollowThePriorities`; it changes only the
Downstream Port, the data of granted writes and the record of the requests issued. That a row whose condition
fails changes nothing is the model's choice (log 4); a statement that says so of a row names that log. A command of the
management link is taken where the link receives a frame that the command's own frame completes (`State.ready`, log 12). -/

open Sys2Proof Sys2Proof.Machine

/-- An outcome is the state `u` with all that comes about at the same event, and `u` with the arbiter's grants alone where
nothing else is due in `u`. -/
def Effect.Gives (o : Host.Outcome State Fault Refusal) (u : State) : Prop :=
  o = .next u.settle ∧ (u.calm = true → o = .next u.arbitrate)

/-! ### The machine and its reset -/

/-- One step is the command at the front of the queue, carried out with the queue's rest. With no command waiting it is the
edge of SCK at the front of the wire (log 12, the model's choice), and with neither the block idles (log 3, the model's
choice). -/
def Obligations.StepRunsFrontCommand : Prop :=
  ∀ (s : State),
    (∀ (c : Instr) (rest : List Instr), s.pending = c :: rest → step s = exec c { s with pending := rest }) ∧
    (∀ (e : SckEdge) (rest : List SckEdge), s.pending = [] → s.wire = e :: rest →
      step s = execEdge e { s with wire := rest }) ∧
    (s.pending = [] → s.wire = [] → step s = .next s)

/-- The values that the spec gives for a hard reset, at power-up. The levels of the pins, the ages and the map's contents
are the model's choices (logs 1, 2 and 13) and are not stated. -/
def Obligations.ResetHasTheSpecsValues : Prop :=
  let s := State.reset
  (s.mode.state = .setup ∧ s.mode.logPolicy = .wait ∧ s.mode.holdLimit = 16 ∧ s.mode.depthPolicy = .refuse ∧
    s.mode.reservation = false) ∧
  ((∀ n < 8, itemBytes (setupItem s.mode.setup n) = [0x00, 0x01, 0, 0, 0, 0]) ∧
    (∀ n ∈ [0x08, 0x09, 0x0B, 0x0C, 0x0E], itemBytes (setupItem s.mode.setup n) = [0, 0, 0, 0, 0, 0]) ∧
    itemBytes (setupItem s.mode.setup 0x0A) = [0x00, 0x10, 0, 0, 0, 0] ∧
    itemBytes (setupItem s.mode.setup 0x0D) = [0, 0, 0, 0, 0, 0x01] ∧
    ∀ n ∈ [0x0F, 0x10, 0x11, 0x12, 0x13], itemBytes (setupItem s.mode.setup n) = [0x01, 0, 0, 0, 0, 0]) ∧
  (s.win.windows.length = 8 ∧
    (∀ w ∈ s.win.windows, w = { enable := false, basePage := 0#28, pages := 1, mapOffset := 0 }) ∧
    s.win.logBase = 0#28 ∧ s.win.capacity = 0) ∧
  s.up.txns = [] ∧
  (s.cap.slots = [none, none, none, none] ∧ s.cap.waitList = [] ∧
    s.cap.sweep = { inFlight := true, position := 0 }) ∧
  (s.log.head = 0#32 ∧ s.log.tail = 0#32 ∧ s.log.staging = [] ∧ s.log.writer = none ∧
    s.log.hold = { running := false, value := 0 }) ∧
  (s.frames.stack = [] ∧ s.frames.counter = 0#16 ∧ s.frames.held = [] ∧ s.frames.barrier = none) ∧
  (s.engine.phase = .idle ∧ s.engine.target = none ∧ s.engine.owed = .none ∧ s.engine.quiesce = [] ∧
    s.engine.hand = none ∧ s.engine.applied = 0) ∧
  (s.ctl.handshake = .idle ∧ s.cack = false ∧ s.ctl.cresp.code = 7#3 ∧ s.ctl.reserved = false) ∧
  ((∀ l, s.flt.latches.get l = false ∧ s.flt.actions.ofLine l = .note) ∧ s.flt.actions.deadline = .note ∧
    s.flt.pulses = 0 ∧ s.flt.divisor = 1 ∧ s.flt.ticks = 0#32 ∧
    s.flt.deadline = { running := false, value := 0 } ∧ s.flt.deadlineIn = 0) ∧
  (s.down.slots.length = 16 ∧ (∀ d ∈ s.down.slots, d = .free) ∧ s.down.waiting = []) ∧
  s.link.events = [] ∧ s.link.overrun = false ∧ s.irqN = true

/-- The reset state meets every invariant that the statements below say each step keeps. -/
def Obligations.ResetMeetsTheInvariants : Prop :=
  State.reset.lineOrder = true ∧ State.reset.arbiterDone = true ∧ State.reset.tableOk = true ∧
    State.reset.eventsOk = true ∧ State.reset.setupOk = true ∧ State.reset.stackOk = true ∧
    State.reset.captureLogOk = true ∧ State.reset.modeOk = true ∧ State.reset.upstreamDone = true ∧
    State.reset.linkOk = true

/-! ### Layouts -/

/-- The frame of every link command decodes to that command, with every operand at every value. -/
def Obligations.LinkFrameDecodesToItsCommand : Prop :=
  ∀ (i : Instr) (bytes : List Byte), i.wf = true → encodeFrame i = some bytes → decodeFrame bytes = some i

/-- A record stored and read back passes the tests of UNWIND: an IMAGE record gives its line and its image, a VOID record is
passed over, and either fails with SEQUENCE where another sequence is expected. -/
def Obligations.StoredRecordVerifies : Prop :=
  ∀ (e : StagingEntry),
    (∀ d, e.content = .image d → verifyRecord e.seq (headerLine e) (storedImage e.content) = .image (lineOf e.line) d) ∧
    (e.content = .void → verifyRecord e.seq (headerLine e) (storedImage e.content) = .void) ∧
    (e.content ≠ .pending →
      ∀ q, q ≠ e.seq → verifyRecord q (headerLine e) (storedImage e.content) = .fails .sequence)

/-- The values in range of each setup item, byte by byte as Table 11.7 names them. -/
def Obligations.SetupItemRangesByByte : Prop :=
  ∀ (n : Nat) (v : ItemValue),
    let b0 := (itemByte v 0).toNat
    let b1 := (itemByte v 1).toNat
    let number := beNat [itemByte v 2, itemByte v 3, itemByte v 4, itemByte v 5]
    let pages := b0 % 4 * 256 + b1
    (n < 8 → (itemInRange n v = true ↔
      b0 / 4 % 32 = 0 ∧ 1 ≤ pages ∧ pages ≤ 512 ∧ number ≤ 2 ^ 28 - 1)) ∧
    (n = 0x08 → (itemInRange n v = true ↔ b0 = 0 ∧ b1 = 0 ∧ number ≤ 2 ^ 28 - 1)) ∧
    (n = 0x09 → (itemInRange n v = true ↔ b0 = 0 ∧ b1 = 0 ∧ number ≤ 65536)) ∧
    (n = 0x0A → (itemInRange n v = true ↔ b0 ≤ 1 ∧ 1 ≤ b1 ∧ number = 0)) ∧
    (n = 0x0B ∨ n = 0x0C → (itemInRange n v = true ↔ b0 ≤ 1 ∧ b1 = 0 ∧ number = 0)) ∧
    (n = 0x0D → (itemInRange n v = true ↔ b0 = 0 ∧ b1 = 0 ∧ 1 ≤ number ∧ number ≤ 4096)) ∧
    (n = 0x0E → (itemInRange n v = true ↔ b0 = 0 ∧ b1 = 0 ∧ number ≤ 65535)) ∧
    (0x0F ≤ n ∧ n ≤ 0x13 → (itemInRange n v = true ↔ b0 ≤ 3 ∧ b1 = 0 ∧ number = 0)) ∧
    (0x13 < n → itemInRange n v = false)

/-! ### Windows and classes -/

/-- Under a layout that LEAVE_SETUP accepts, every guarded line has an index of the Capture Map of its own and lies outside
the log region. -/
def Obligations.GuardedLinesHaveTheirOwnMapEntries : Prop :=
  ∀ (setup : List ItemValue), validateSetup setup = none →
    ∀ (a b : Addr) (w v i j : Nat),
      findWindow (lineOf a) 0 (loadWindows setup).windows = some (w, i) →
      findWindow (lineOf b) 0 (loadWindows setup).windows = some (v, j) →
        i < 32768 ∧ (loadWindows setup).inLog (lineOf a) = false ∧ (i = j → lineOf a = lineOf b)

/-- Table 2.2: the class of a request, from the request, the operating state and the Window Table. -/
def Obligations.ClassFollowsTable22 : Prop :=
  ∀ (st : OpState) (t : WindowTable) (r : Request),
    let group := r.addr.toNat % 64 / 8
    let line := r.addr.toNat / 64 * 64
    let bad := r.length = 0 ∨ 8 < r.length ∨ 8 < group + r.length
    let inWindow := fun w : Window =>
      w.enable = true ∧ w.basePage.toNat ≤ line / 4096 ∧ line / 4096 < w.basePage.toNat + w.pages
    let inLog := t.logBase.toNat * 4096 ≤ line ∧ line < t.logBase.toNat * 4096 + t.capacity * 128
    (bad → classify st t r = .malformed) ∧
    (¬bad → st = .setup → classify st t r = .plain) ∧
    (¬bad → st ≠ .setup → (∃ w ∈ t.windows, inWindow w) →
      ∃ n w i, classify st t r = .guarded n i ∧ t.windows[n]? = some w ∧ inWindow w ∧
        i = w.mapOffset + (line - w.basePage.toNat * 4096) / 64) ∧
    (¬bad → st ≠ .setup → (∀ w ∈ t.windows, ¬inWindow w) → inLog → classify st t r = .loghit) ∧
    (¬bad → st ≠ .setup → (∀ w ∈ t.windows, ¬inWindow w) → ¬inLog → classify st t r = .plain)

/-! ### What every step keeps -/

/-- No two downstream requests for one line are outstanding at once, and there are sixteen slots. -/
def Obligations.StepKeepsOneRequestPerLine : Prop :=
  ∀ (s t : State), s.lineOrder = true → step s = .next t → t.lineOrder = true

/-- No step leaves a FREE slot beside an eligible request, while RST_N is high. -/
def Obligations.StepLeavesNoGrantUndone : Prop :=
  ∀ (s t : State), s.arbiterDone = true → step s = .next t → t.arbiterDone = true

/-- No step leaves in WAIT_LINE an entry that has its turn, nor unaccepted a presented request that the conditions of
acceptance admit, while RST_N is high. -/
def Obligations.StepLeavesNoTurnUnused : Prop :=
  ∀ (s t : State), s.tableOk = true → s.upstreamDone = true → step s = .next t → t.upstreamDone = true

/-- The Transaction Table never holds more than sixteen entries nor two with one tag, and stays in order of age. -/
def Obligations.StepKeepsTransactionTable : Prop :=
  ∀ (s t : State), s.tableOk = true → step s = .next t → t.tableOk = true

/-- The frame stack never holds more than eight frames nor two with one serial, and no INTACT frame stands below a BROKEN
one. -/
def Obligations.StepKeepsFrameStack : Prop :=
  ∀ (s t : State), s.stackOk = true → step s = .next t → t.stackOk = true

/-- Outside ACTIVE there is no barrier, no rollback and no record; SETUP has no frame and FAILED no INTACT one; an empty
stack with no rollback has no record; the engine in IDLE is at its IDLE values; a reservation needs a rollback. -/
def Obligations.StepKeepsModeDiscipline : Prop :=
  ∀ (s t : State), s.modeOk = true → step s = .next t → t.modeOk = true

/-- Four capture slots, at most eight staged records, the Capture Map in its canonical form and the sweep in its range; at
most 32 events, with overrun only beside one; twenty setup items, each in range; a link frame only while CS_N is low and RST_N
high, of a command with bytes yet to come, or with no more bits sent than its response has. Each of the four is kept by
itself. -/
def Obligations.StepKeepsBoundedBlocks : Prop :=
  ∀ (s t : State), step s = .next t →
    (s.captureLogOk = true → t.captureLogOk = true) ∧ (s.eventsOk = true → t.eventsOk = true) ∧
      (s.setupOk = true → t.setupOk = true) ∧ (s.linkOk = true → t.linkOk = true)

/-- The operating state changes only at the events of Table 9.1. -/
def Obligations.OperatingStateChangesOnlyByTable91 : Prop :=
  ∀ (i : Instr) (s t : State), exec i s = .next t → t.mode.state ≠ s.mode.state →
    ((∃ c, i = .hardReset c) ∧ t.mode.state = .setup) ∨
    (i = .leaveSetup ∧ s.mode.state = .setup ∧ t.mode.state = .active) ∨
    (i = .enterSetup ∧ s.mode.state ≠ .setup ∧ t.mode.state = .setup) ∨
    (i = .recover ∧ s.mode.state = .failed ∧ t.mode.state = .active) ∨
    ((∃ k r, i = .logWriteResponse k r ∨ i = .writeBackResponse k r) ∧ t.mode.state = .failed) ∨
    ((∃ k r, i = .unwindReadResponse k r) ∧ t.mode.state = .failed)

/-- The Window Table and the values in force change only at a LEAVE_SETUP or a hard reset; the setup table only at a
SETUP_WRITE or a hard reset; an entry of the Capture Map only where a capture completes, the sweep clears it, or at a hard
reset. -/
def Obligations.LayoutAndMapChangeOnlyAtTheirEvents : Prop :=
  ∀ (i : Instr) (s t : State), exec i s = .next t → (∀ c, i ≠ .hardReset c) →
    (i ≠ .leaveSetup →
      t.win = s.win ∧ t.mode.logPolicy = s.mode.logPolicy ∧ t.mode.holdLimit = s.mode.holdLimit ∧
        t.mode.depthPolicy = s.mode.depthPolicy ∧ t.mode.reservation = s.mode.reservation ∧
        t.flt.divisor = s.flt.divisor ∧ t.flt.deadlineIn = s.flt.deadlineIn ∧ t.flt.actions = s.flt.actions) ∧
    ((∀ n v, i ≠ .setupWrite n v) → t.mode.setup = s.mode.setup) ∧
    (∀ j, t.cap.map.read j ≠ s.cap.map.read j →
      (i = .sweepClear ∧ j = s.cap.sweep.position ∧ t.cap.map.read j = 0#16) ∨
      ∃ k d n line c, i = .preImageResponse k (.ok d) ∧ s.dslot k = .outstanding (.slot n) line false ∧
        s.cap.slots.getD n none = some c ∧ j = c.mapIndex ∧ t.cap.map.read j = c.serial)

/-! ### The upstream port -/

/-- The entry that the acceptance of `r` with class `cls` makes (Table 2.3), in the stage `st`. -/
def Effect.entry (s : State) (r : Request) (cls : AccessClass) (st : Stage) : Txn :=
  { tag := r.tag, dir := r.dir, addr := r.addr, length := r.length, line := lineOf r.addr,
    data := if r.dir = .read then none else some r.beats, cls := cls, age := s.up.nextAge, stage := st }

/-- The entry is made, and nothing is presented any longer. -/
def Effect.accepted (s : State) (r : Request) (cls : AccessClass) (st : Stage) : State :=
  { s with up := { presented := none, txns := s.up.txns ++ [Effect.entry s r cls st], nextAge := s.up.nextAge + 1 } }

/-- The request of an entry, as it waits in the passthrough queue. -/
def Effect.ownRequest (e : Txn) : Waiting :=
  { origin := .txn e.tag, dir := e.dir, addr := e.addr, length := e.length, beats := [] }

/-- The entry is made in ISSUED and its request waits in the passthrough queue. -/
def Effect.acceptedAndIssued (s : State) (r : Request) (cls : AccessClass) : State :=
  { Effect.accepted s r cls .issued with
    frames.barrier := s.frames.barrier.map (·.filter (· != r.tag))
    down.waiting := s.down.waiting ++ [Effect.ownRequest (Effect.entry s r cls .issued)] }

/-- ACCEPT_REQUEST, issued at acceptance. The request can be accepted and has its turn, and it is PLAIN, or a GUARDED read
that no rollback holds, or a GUARDED write that neither a barrier nor a rollback holds and that Table 3.1 gives no capture:
its entry is ISSUED and the request waits in the passthrough queue with its own address and length. -/
def Obligations.AcceptedRequestIsIssued : Prop :=
  ∀ (r : Request) (cls : AccessClass) (s : State),
    s.rstN = true → s.up.presented = none → s.turnsSettled = true →
    s.up.txns.length < 16 → (∀ e ∈ s.up.txns, e.tag ≠ r.tag ∧ e.line ≠ lineOf r.addr) →
    classify s.mode.state s.win r = cls →
    (cls = .plain ∨ ∃ w i, cls = .guarded w i ∧ s.mode.state ≠ .failed ∧ s.engine.phase = .idle ∧
      (r.dir = .read ∨ s.frames.barrier = none ∧
        (s.frames.stack = [] ∨ ∃ f, s.frames.stack.getLast? = some f ∧
          (f.status = .broken ∨ s.cap.sweep.inFlight = false ∧ s.cap.map.read i = f.serial)))) →
    let u := Effect.acceptedAndIssued s r cls
    Effect.Gives (exec (.acceptRequest r) s) u

/-- The request is answered at its acceptance, which takes an age and leaves no entry. -/
def Effect.answeredAtOnce (s : State) (r : Request) (code : UpCode) : State :=
  { s with
    up.nextAge := s.up.nextAge + 1
    obs.responses := s.obs.responses ++ [{ tag := r.tag, code := code, data := [] }] }

/-- ACCEPT_REQUEST, not issued. A MALFORMED request is answered FORMERR and a LOGHIT one, or a GUARDED one in FAILED, DENIED,
at acceptance; a request that finds sixteen entries in use, or its tag in use, stays presented. -/
def Obligations.RequestAnsweredAtOnceOrKeptPresented : Prop :=
  ∀ (r : Request) (s : State), s.rstN = true → s.up.presented = none → s.turnsSettled = true →
    (s.up.txns.length < 16 → (∀ e ∈ s.up.txns, e.tag ≠ r.tag) →
      ∀ code, (classify s.mode.state s.win r = .malformed ∧ code = UpCode.formerr ∨
          classify s.mode.state s.win r = .loghit ∧ code = .denied ∨
          s.mode.state = .failed ∧ (∃ w i, classify s.mode.state s.win r = .guarded w i) ∧ code = .denied) →
        let u := Effect.answeredAtOnce s r code
        Effect.Gives (exec (.acceptRequest r) s) u) ∧
    ((16 ≤ s.up.txns.length ∨ ∃ e ∈ s.up.txns, e.tag = r.tag) →
      let u : State := { s with up.presented := some r }
      Effect.Gives (exec (.acceptRequest r) s) u)

/-- A write in the capture stage is granted a capture in slot `k` under the top frame `f`: the head is its sequence, its
record is PENDING, the slot is READING and its pre-image read waits. -/
def Effect.captureGranted (s : State) (e : Txn) (k : Nat) (f : Frame) : State :=
  { s with
    cap.slots := s.cap.slots.set k (some
      { write := some e.tag, seq := s.log.head, serial := f.serial, line := e.line, mapIndex := e.mapIndex,
        abandoned := false })
    cap.waitList := []
    log.head := s.log.head + 1
    log.staging := s.log.staging ++
      [{ seq := s.log.head, serial := f.serial, window := e.window, mapIndex := e.mapIndex, line := e.line,
         content := .pending }]
    down.waiting := s.down.waiting ++ [{ origin := .slot k, dir := .read, addr := e.line, length := 8, beats := [] }] }

/-- A write waits for log space and the hold timer runs. -/
def Effect.waitsForSpace (s : State) (k : Tag) : State :=
  { s with
    cap.waitList := [k]
    log.hold := if s.log.hold.running then s.log.hold else { running := true, value := 0 } }

/-- ACCEPT_REQUEST of a GUARDED write that Table 3.1 gives a capture, with a slot and a staging entry to be had. Below the
capacity the capture is granted at once: the head is its sequence, its record is PENDING, the FREE slot is READING and its
pre-image read waits. At the capacity under WAIT the write waits for log space and the hold timer runs; under BREAK the event
is that of its grant with the write on the wait list, which breaks frames until it succeeds or the top is broken
(`Obligations.CaptureGrantReservesTheHead`). That the FREE slot is the one with the lowest index is the model's choice
(log 24). -/
def Obligations.GuardedWriteIsCapturedOrWaits : Prop :=
  ∀ (r : Request) (w i k : Nat) (f : Frame) (s : State),
    s.rstN = true → s.up.presented = none → s.turnsSettled = true →
    s.up.txns.length < 16 → (∀ e ∈ s.up.txns, e.tag ≠ r.tag ∧ e.line ≠ lineOf r.addr) →
    classify s.mode.state s.win r = .guarded w i → s.mode.state ≠ .failed → r.dir = .write →
    s.engine.phase = .idle → s.frames.barrier = none →
    s.frames.stack.getLast? = some f → f.status = .intact →
    (s.cap.sweep.inFlight = true ∨ s.cap.map.read i ≠ f.serial) →
    s.cap.waitList = [] → s.cap.slots.findIdx? Option.isNone = some k → s.log.staging.length < 8 →
    let v := Effect.accepted s r (.guarded w i) .capture
    (s.logCount < s.win.capacity →
      let u := Effect.captureGranted v (Effect.entry s r (.guarded w i) .capture) k f
      Effect.Gives (exec (.acceptRequest r) s) u) ∧
    (s.win.capacity ≤ s.logCount → s.mode.logPolicy = .wait →
      let u := Effect.waitsForSpace v r.tag
      Effect.Gives (exec (.acceptRequest r) s) u) ∧
    (s.win.capacity ≤ s.logCount → s.mode.logPolicy = .break →
      exec (.acceptRequest r) s = exec .captureGrant { v with cap.waitList := [r.tag] })

/-- ACCEPT_REQUEST, held. While a rollback is in flight a GUARDED request enters HELD by the rollback; while a barrier is in
flight a GUARDED write enters HELD by the barrier; either with or without its turn. Otherwise a request whose line an older
entry holds waits for its turn. -/
def Obligations.AcceptedRequestIsHeldOrWaitsItsTurn : Prop :=
  ∀ (r : Request) (cls : AccessClass) (st : Stage) (s : State),
    s.rstN = true → s.up.presented = none → s.turnsSettled = true →
    s.up.txns.length < 16 → (∀ e ∈ s.up.txns, e.tag ≠ r.tag ∧ e.age < s.up.nextAge) →
    classify s.mode.state s.win r = cls →
    ((∃ w i, cls = .guarded w i) ∧ s.mode.state ≠ .failed ∧
        (s.engine.phase ≠ .idle ∧ st = .held .rollback ∨
          s.engine.phase = .idle ∧ r.dir = .write ∧ s.frames.barrier ≠ none ∧ st = .held .barrier) ∨
      (cls = .plain ∨ (∃ w i, cls = .guarded w i) ∧ s.mode.state ≠ .failed ∧ s.engine.phase = .idle ∧
          (r.dir = .read ∨ s.frames.barrier = none)) ∧
        (∃ e ∈ s.up.txns, e.line = lineOf r.addr) ∧ st = .waitLine) →
    let u := Effect.accepted s r cls st
    Effect.Gives (exec (.acceptRequest r) s) u

/-- An entry is answered: the response is delivered, the entry and its tag are freed, and it leaves the barrier set, the
quiesce set, the wait list and its capture slot. -/
def Effect.answered (s : State) (k : Tag) (code : UpCode) (data : List Beat) : State :=
  { s with
    up.txns := s.up.txns.filter (·.tag != k)
    obs.responses := s.obs.responses ++ [{ tag := k, code := code, data := data }]
    frames.barrier := s.frames.barrier.map (·.filter (· != k))
    engine.quiesce := s.engine.quiesce.filter (· != k)
    cap.waitList := s.cap.waitList.filter (· != k)
    cap.slots := s.cap.slots.map (Option.map (CaptureSlot.drop k)) }

/-- The downstream slot with tag `k` becomes FREE. -/
def Effect.slotFreed (s : State) (k : DTag) : State := { s with down.slots := s.down.slots.set k.toNat .free }

/-- PASSTHROUGH_RESPONSE. The slot becomes FREE and its entry is answered: MEMERR for an ERR, OK otherwise, with the data for
a read alone. The entry and its tag are freed. -/
def Obligations.PassthroughResponseAnswersTheEntry : Prop :=
  ∀ (k : DTag) (resp : MemResponse) (e : Txn) (line : Addr) (s : State),
    s.rstN = true → s.dslot k = .outstanding (.txn e.tag) line false → s.findTxn e.tag = some e →
    let code : UpCode := if resp = .err then .memerr else .ok
    let data : List Beat :=
      match resp, e.dir with
      | .ok d, .read => d
      | _, _ => []
    let u := Effect.answered (Effect.slotFreed s k) e.tag code data
    Effect.Gives (exec (.passthroughResponse k resp) s) u

/-! ### The control port -/

/-- The serial of the top frame, 0 when there is none. -/
def Effect.topSerial (s : State) : Serial := (s.frames.stack.getLast?.map Frame.serial).getD 0#16

/-- An event is posted with the present tick stamp, depth and the given serial. -/
def Effect.posted (s : State) (body : EventBody) (serial : Serial) : State :=
  { s with link := s.link.post { body := body, stamp := s.flt.ticks, depth := s.frames.stack.length, serial := serial } }

/-- The candidates of a serial choice, in their order: each is the one before, or the counter, plus one, and 1 after 65535. -/
def Effect.candidate (s : State) : Nat → Nat
  | 0 => if s.frames.counter.toNat = 65535 then 1 else s.frames.counter.toNat + 1
  | n + 1 => if Effect.candidate s n = 65535 then 1 else Effect.candidate s n + 1

/-- R3. The serial choice falls on candidate number `n`: it is neither the serial of a frame on the stack nor held, every
candidate before it is one of those, and the choice wraps exactly when a candidate moved from 65535 to 1. -/
def Effect.Chosen (s : State) (n : Nat) (c : Serial) (wraps : Bool) : Prop :=
  let used := s.frames.stack.map Frame.serial ++ s.frames.held
  c.toNat = Effect.candidate s n ∧ c ∉ used ∧ (∀ m < n, BitVec.ofNat 16 (Effect.candidate s m) ∈ used) ∧
    (wraps = true ↔ s.frames.counter = 65535#16 ∨ ∃ m < n, Effect.candidate s m = 65535)

/-- A frame with serial `c` and the given origin is pushed: its start is the head, the deadline counter is loaded, and
FRAME_OPENED is posted. A choice that wraps also starts a sweep and renews the serials held. -/
def Effect.pushed (s : State) (c : Serial) (wraps : Bool) (origin : FrameOrigin) : State :=
  { s with
    frames.stack := s.frames.stack ++
      [{ serial := c, start := s.log.head, status := .intact, origin := origin, folded := false }]
    frames.counter := c
    frames.held := if wraps then s.frames.stack.map Frame.serial else s.frames.held
    cap.sweep := if wraps then { inFlight := true, position := 0 } else s.cap.sweep
    flt.deadline := { running := decide (1 ≤ s.flt.deadlineIn), value := s.flt.deadlineIn }
    link := s.link.post
      { body := .frameOpened origin, stamp := s.flt.ticks, depth := s.frames.stack.length + 1, serial := c } }

/-- The request in hand is answered: CRESP takes the answer and the handshake is ANSWERED. -/
def Effect.ctlAnswered (s : State) (req : CtlRequest) (a : CtlAnswer) : State :=
  { s with ctl.creq := true, ctl.handshake := .answered req, ctl.cresp := a }

/-- OPEN with an empty barrier set: the barrier completes at the event that takes the OPEN, a frame with the chosen serial is
pushed, its start is the head, the deadline counter is loaded, FRAME_OPENED is posted and the OPEN is answered DONE. The
serial is the first candidate after the counter that is neither on the stack nor held, which is found within sixteen
candidates and is never 0. A choice that wraps also starts a sweep and renews the serials held. -/
def Obligations.OpenPushesAFrame : Prop :=
  ∀ (s : State),
    s.rstN = true → s.ctl.creq = false → s.ctl.handshake = .idle → s.mode.state = .active → s.engine.phase = .idle →
    s.upstreamCalm = true → s.heldBy .barrier = [] → (∀ e ∈ s.up.txns, e.undecided = false) →
    s.frames.stack.length < 8 →
    (s.frames.held.length ≤ 7 → ∃ n < 16, ∃ c wraps, Effect.Chosen s n c wraps) ∧
    ∀ (n : Nat) (c : Serial) (wraps : Bool), Effect.Chosen s n c wraps →
      c ≠ 0#16 ∧
      ((wraps = true → s.cap.sweep.inFlight = false) →
        let u : State :=
          { Effect.ctlAnswered (Effect.pushed s c wraps .control) .openFrame .done with frames.barrier := none }
        Effect.Gives (exec .openFrame s) u)

/-- OPEN owed or refused. With guarded writes still to leave their capture stage, the OPEN waits, and they are its barrier
set. With a rollback in flight it is RESERVED where reservation is enabled and the slot is free, and BUSY otherwise. -/
def Obligations.OpenWaitsOrIsReserved : Prop :=
  ∀ (s : State), s.rstN = true → s.ctl.creq = false → s.ctl.handshake = .idle → s.mode.state = .active →
    (s.engine.phase = .idle →
      let set := (s.up.txns.filter fun e =>
        e.isGuarded && e.dir == .write && (e.stage == .waitLine || e.stage == .capture)).map Txn.tag
      let u : State :=
        { s with ctl.creq := true, ctl.handshake := .working .openFrame, frames.barrier := some set }
      Effect.Gives (exec .openFrame s) u) ∧
    (s.engine.phase ≠ .idle →
      let free := s.mode.reservation && !s.ctl.reserved
      let u : State :=
        { Effect.ctlAnswered s .openFrame (if free then .reserved else .busy) with
          ctl.reserved := s.ctl.reserved || free }
      Effect.Gives (exec .openFrame s) u)

/-- The OPEN of a barrier is answered without a push. -/
def Effect.openAnswered (s : State) (a : CtlAnswer) : State :=
  { s with ctl.handshake := .answered .openFrame, ctl.cresp := a, frames.barrier := none }

/-- The outcome of an OPEN whose barrier completes with the serial choice `c`, `wraps`: DEPTH at eight frames under REFUSE,
BUSY where the choice would wrap during a sweep, and otherwise a push, after a fold at eight frames, and DONE. -/
def Effect.openDecided (s : State) (c : Serial) (wraps : Bool) : State :=
  if s.frames.stack.length = 8 ∧ s.mode.depthPolicy = .refuse then Effect.openAnswered s .depth
  else if wraps = true ∧ s.cap.sweep.inFlight = true then Effect.openAnswered s .busy
  else if s.frames.stack.length = 8 then Effect.openAnswered (Effect.pushed s.fold c wraps .control) .done
  else Effect.openAnswered (Effect.pushed s c wraps .control) .done

/-- Table 3.1: a guarded write needs a capture where the top frame is INTACT and the map entry does not hold its serial, or a
sweep is in flight. -/
def Effect.needsCapture (s : State) (e : Txn) : Bool :=
  s.frames.stack.getLast?.any fun f =>
    f.status == .intact && (s.cap.sweep.inFlight || s.cap.map.read e.mapIndex != f.serial)

/-- Every entry that `cause` holds is released, with no write on the capture wait list before. One without its turn waits for
it; a write with its turn that Table 3.1 gives a capture joins the wait list; any other is issued. Those that join the list,
and those issued, follow one another in the order of the table, which is that of age. -/
def Effect.released (s : State) (cause : HoldCause) : State :=
  let freed := s.up.txns.filter (·.stage == .held cause)
  let turn := fun e : Txn => s.up.txns.all fun o => !(o.line == e.line && decide (o.age < e.age))
  let captures := fun e : Txn => e.isGuardedWrite && Effect.needsCapture s e
  let captured := (freed.filter fun e => turn e && captures e).map Txn.tag
  let issued := freed.filter fun e => turn e && !captures e
  { s with
    up.txns := s.up.txns.map fun e =>
      if e.stage == .held cause then
        { e with stage := if !turn e then .waitLine else if captures e then .capture else .issued }
      else e
    frames.barrier := s.frames.barrier.map (·.filter fun k => !(issued.map Txn.tag).contains k)
    cap.waitList := s.cap.waitList ++ captured
    down.waiting := s.down.waiting ++ issued.map Effect.ownRequest }

/-- The completion of a barrier decides the OPEN, in the order of the conditions: DEPTH at eight frames under REFUSE, BUSY
where the choice would wrap during a sweep, and otherwise a push, after a fold at eight frames. The writes that the barrier
held are then released, in order of age, and judged against the frame then on top. BARRIER_COMPLETION. -/
def Obligations.BarrierCompletionDecidesTheOpen : Prop :=
  ∀ (n : Nat) (c : Serial) (wraps : Bool) (s : State),
    s.rstN = true → s.frames.barrier = some [] → s.ctl.handshake = .working .openFrame → s.tableOk = true →
    s.cap.waitList = [] → s.frames.stack.length ≤ 8 → Effect.Chosen s n c wraps →
    Effect.Gives (exec .barrierCompletion s) (Effect.released (Effect.openDecided s c wraps) .barrier)

/-- A fold makes one frame of the two bottom ones. It keeps the bottom frame's serial, start, status and origin; where the
bottom is BROKEN and the absorbed frame INTACT, the tail moves to the start of the frame above, staged records below it are
discarded, and FRAME_BROKEN follows FRAMES_FOLDED. That FRAME_BROKEN carries the depth after the fold is the model's choice
(log 17), since R11 gives none. -/
def Obligations.FoldJoinsTheTwoBottomFrames : Prop :=
  ∀ (b a g : Frame) (rest : List Frame) (s : State), s.frames.stack = b :: a :: g :: rest →
    let t := s.fold
    let folded : EventRecord :=
      { body := .framesFolded a.serial, stamp := s.flt.ticks, depth := s.frames.stack.length - 1, serial := b.serial }
    let broken : EventRecord :=
      { body := .frameBroken .fold, stamp := s.flt.ticks, depth := s.frames.stack.length - 1, serial := a.serial }
    t.frames = { s.frames with stack := { b with folded := true } :: g :: rest } ∧
      t.mode = s.mode ∧ t.win = s.win ∧ t.up = s.up ∧ t.cap = s.cap ∧ t.engine = s.engine ∧ t.ctl = s.ctl ∧
      t.flt = s.flt ∧ t.down = s.down ∧ t.obs = s.obs ∧ t.log.head = s.log.head ∧
      (b.status = .broken → a.status = .intact →
        t.log.tail = g.start ∧ t.log.staging = s.log.staging.filter (fun e => !seqBelow e.seq g.start) ∧
          t.link = (s.link.post folded).post broken) ∧
      (b.status = .intact ∨ a.status = .broken → t.log = s.log ∧ t.link = s.link.post folded)

/-- A record write becomes orphaned when its staged record is below the head, to which the tail moves. -/
def Effect.orphanedBelow (s : State) (j : WriterJob) : WriterJob :=
  { j with orphaned := j.orphaned || s.log.staging.any fun e => e.seq == j.seq && seqBelow e.seq s.log.head }

/-- The waiting writes are judged by Table 3.1 against the frame on top. One that needs no capture leaves the list and is
issued, in the order of the list; any other keeps its place. The hold timer stops where none is left and runs on where one
is. -/
def Effect.rejudged (s : State) : State :=
  let leaves := fun k : Tag => (s.findTxn k).any fun e => !Effect.needsCapture s e
  let issued := s.cap.waitList.filter leaves
  let kept := s.cap.waitList.filter fun k => !leaves k
  { s with
    up.txns := s.up.txns.map fun e => if issued.contains e.tag then { e with stage := .issued } else e
    frames.barrier := s.frames.barrier.map (·.filter fun k => !issued.contains k)
    cap.waitList := kept
    log.hold := if kept.isEmpty then { running := false, value := 0 } else s.log.hold
    down.waiting := s.down.waiting ++ (issued.filterMap s.findTxn).map Effect.ownRequest }

/-- A COMMIT of the top frame `f` leaves the frames `below`. The log is emptied when no frame is left or when `f` was INTACT
and is committed onto a BROKEN frame; otherwise the records stay, and the hold timer goes on. -/
def Effect.committed (s : State) (below : List Frame) (f : Frame) : State :=
  let emptied := below.isEmpty || f.status == .intact && (below.getLast?.map Frame.status) == some .broken
  { Effect.ctlAnswered s .commit .done with
    frames.stack := below
    log.tail := if emptied then s.log.head else s.log.tail
    log.staging := if emptied then s.log.staging.filter (fun e => !seqBelow e.seq s.log.head) else s.log.staging
    log.writer := if emptied then s.log.writer.map (Effect.orphanedBelow s) else s.log.writer
    log.hold :=
      if below.isEmpty || emptied && decide (0 < s.win.capacity) then { running := false, value := 0 } else s.log.hold
    flt.deadline :=
      if below.isEmpty then { s.flt.deadline with running := false }
      else { running := decide (1 ≤ s.flt.deadlineIn), value := s.flt.deadlineIn }
    link := s.link.post
      { body := .frameCommitted (!below.isEmpty), stamp := s.flt.ticks, depth := below.length, serial := f.serial } }

/-- COMMIT. At depth 1 the stack and the log are emptied and the deadline counter stops; at depth 2 or more the frame below
becomes the top, keeps its fields, and the counter is loaded; the records go only where an INTACT frame is committed onto a
BROKEN one. The COMMIT is answered DONE. The writes on the capture wait list are judged against the new top: those whose map
entry equals its serial while no sweep is in flight, and all of them where it is BROKEN or absent, are issued in the order of
the list; the others keep their place, and the hold timer runs on unless none is left or the log was emptied. The second
clause says once more of a COMMIT at depth 1 that every waiting write is issued. -/
def Obligations.CommitRemovesTheTopFrame : Prop :=
  ∀ (f : Frame) (below : List Frame) (s : State),
    s.rstN = true → s.ctl.creq = false → s.ctl.handshake = .idle → s.mode.state = .active → s.engine.phase = .idle →
    s.frames.stack = below ++ [f] →
    Effect.Gives (exec .commit s) (Effect.rejudged (Effect.committed s below f)) ∧
    (below = [] → s.frames.barrier = none → (∀ k ∈ s.cap.waitList, (s.findTxn k).isSome = true) →
      ∃ t, exec .commit s = .next t ∧ t.frames.stack = [] ∧ t.log.head = s.log.head ∧ t.log.tail = s.log.head ∧
        t.cap.waitList = [] ∧ t.log.hold = { running := false, value := 0 } ∧ t.ctl.handshake = .answered .commit ∧
        t.ctl.cresp = .done ∧
        ∀ k ∈ s.cap.waitList, ∀ e ∈ t.up.txns, e.tag = k → e.stage = .issued)

/-- The control requests answered at their taking with nothing changed: OFFLINE outside ACTIVE, whatever the request; BUSY
for a COMMIT during a rollback; NO_FRAME for a COMMIT, an ABORT or an ABORT_ALL at depth 0. -/
def Obligations.ControlRequestsRefusedAtTheTaking : Prop :=
  ∀ (i : Instr) (req : CtlRequest) (a : CtlAnswer) (s : State),
    (i, req) ∈ [(Instr.openFrame, CtlRequest.openFrame), (.commit, .commit), (.abort, .abort), (.abortAll, .abortAll)] →
    s.rstN = true → s.ctl.creq = false → s.ctl.handshake = .idle →
    (s.mode.state ≠ .active ∧ a = .offline ∨
      s.mode.state = .active ∧ req = .commit ∧ s.engine.phase ≠ .idle ∧ a = .busy ∨
      s.mode.state = .active ∧ req ≠ .openFrame ∧ s.engine.phase = .idle ∧ s.frames.stack = [] ∧ a = .noFrame) →
    let u := Effect.ctlAnswered s req a
    Effect.Gives (exec i s) u

/-- A rollback's start abandons the barrier in flight: its OPEN is answered RESERVED, and is then the reservation, where
reservation is enabled and the slot is free, and BUSY otherwise. -/
def Effect.barrierAbandoned (s : State) : State :=
  let free := s.mode.reservation && !s.ctl.reserved
  if s.frames.barrier.isNone then s
  else
    { s with
      frames.barrier := none
      ctl :=
        { creq := s.ctl.creq, handshake := .answered .openFrame, cresp := if free then .reserved else .busy,
          reserved := s.ctl.reserved || free } }

/-- Under an INTACT top every GUARDED entry not yet issued is dealt with in the order of the table: a write is answered OK and
its entry is freed, a READING slot that served it goes on without it, and a read is HELD by the rollback. -/
def Effect.absorbed (s : State) : State :=
  let unissued := fun e : Txn => e.isGuarded && e.stage != .issued
  let gone := (s.up.txns.filter fun e => unissued e && e.dir == .write).map Txn.tag
  { s with
    up.txns := (s.up.txns.filter fun e => !(unissued e && e.dir == .write)).map fun e =>
      if unissued e then { e with stage := .held .rollback } else e
    obs.responses := s.obs.responses ++ gone.map fun k => { tag := k, code := .ok, data := [] }
    cap.waitList := []
    cap.slots := s.cap.slots.map (Option.map fun c =>
      if c.write.any (gone.contains ·) then { c with write := none } else c) }

/-- A rollback starts. The engine enters QUIESCE with its target; the quiesce set is every GUARDED write issued and, under a
BROKEN top, every other GUARDED write too; the timers stop and a barrier is abandoned. Under an INTACT top the unissued
entries are absorbed or held. Under a BROKEN top nothing is, and the entries that the barrier held are released. -/
def Effect.rollbackStarted (s : State) (all : Bool) (owed : OwedAnswer) : State :=
  let v : State :=
    { Effect.barrierAbandoned s with
      engine :=
        { phase := .quiesce, target := some (if all then 0 else s.frames.stack.length - 1), owed := owed,
          quiesce := (s.up.txns.filter fun e => e.isGuardedWrite && (e.stage == .issued || !s.topIntact)).map Txn.tag
          hand := none, applied := 0 }
      log.hold := { running := false, value := 0 }
      flt.deadline.running := false }
  if s.topIntact then Effect.absorbed v else Effect.released v .barrier

/-- ABORT and ABORT_ALL. In IDLE with a frame on the stack a rollback starts: its target is the depth minus one, or 0; the
answer is owed. No barrier is then in flight, since its OPEN would keep the port busy. During a rollback the target moves
down, and the answer owed is the rollback's, or NO_FRAME for an ABORT at target 0. -/
def Obligations.ControlAbortStartsOrOvertakes : Prop :=
  ∀ (all : Bool) (s : State),
    s.rstN = true → s.ctl.creq = false → s.ctl.handshake = .idle → s.mode.state = .active →
    let i : Instr := if all then .abortAll else .abort
    let v : State := { s with ctl.creq := true, ctl.handshake := .working (if all then .abortAll else .abort) }
    (s.engine.phase = .idle → s.frames.stack ≠ [] → (s.up.txns.map Txn.tag).Nodup → s.frames.barrier = none →
      Effect.Gives (exec i s) (Effect.rollbackStarted v all .rollback)) ∧
    (∀ n, s.engine.phase ≠ .idle → s.engine.target = some n →
      Effect.Gives (exec i s)
        { v with
          engine.target := some (if all then 0 else n - 1)
          engine.owed := if all = false ∧ n = 0 then .noFrame else .rollback })

/-- The start of a rollback, whatever raised it, under an INTACT or a BROKEN top and with or without a barrier in flight. Under
an INTACT top every GUARDED entry not yet issued is dealt with in order of age: a write is answered OK, a read is HELD. Under
a BROKEN top nothing is absorbed or held anew, and the entries that the barrier held are released in order of age. A barrier
is abandoned, and its OPEN is answered RESERVED or BUSY. -/
def Obligations.RollbackStartAbsorbsUnissuedEntries : Prop :=
  ∀ (kind : AbortKind) (fromControl : Bool) (s : State),
    (s.up.txns.map Txn.tag).Nodup → (s.frames.barrier ≠ none → s.ctl.handshake = .working .openFrame) →
    s.startRollback kind fromControl =
      Effect.rollbackStarted s (decide (kind = .all)) (if fromControl then .rollback else .none)

/-- The handshake. A rise of CREQ outside IDLE changes the level of CREQ alone, whatever its code; a fall in ANSWERED returns
the port to IDLE and lowers CACK; a fall in WORKING leaves the request in hand; the release returns to IDLE where CREQ is
still low, and changes nothing where CREQ has risen again. -/
def Obligations.HandshakeFollowsItsPhases : Prop :=
  ∀ (s : State), s.rstN = true →
    (∀ i ∈ [Instr.openFrame, .commit, .abort, .abortAll, .creqRiseIgnored],
      s.ctl.creq = false → s.ctl.handshake ≠ .idle → exec i s = .next { s with ctl.creq := true }) ∧
    (∀ req, s.ctl.handshake = .answered req →
      (s.ctl.creq = true →
        exec .creqFall s = .next { s with ctl := { s.ctl with creq := false, handshake := .idle } } ∧
          exec .release s = .next s) ∧
      (s.ctl.creq = false →
        ∃ t, exec .release s = .next t ∧ t = { s with ctl.handshake := .idle } ∧ s.cack = true ∧ t.cack = false)) ∧
    (∀ req, s.ctl.handshake = .working req → s.ctl.creq = true →
      exec .creqFall s = .next { s with ctl := { s.ctl with creq := false, handshake := .working req } })

/-! ### Faults, ticks and reset -/

/-- FAULT_TAKEN is posted with the source, the action carried out, the stack-empty mark and the top serial. -/
def Effect.faultPosted (s : State) (source : FaultSource) (action : FaultAction) : State :=
  Effect.posted s (.faultTaken source action s.frames.stack.isEmpty) (Effect.topSerial s)

/-- FAULT_LINE_RISE sets the latch of its line and touches nothing else; while RST_N is low it does nothing. TAKE_FAULT of a
set latch that is not an abort clears the latch, and posts FAULT_TAKEN with NOTE unless the action is IGNORE; outside ACTIVE
every action but IGNORE is handled as NOTE. -/
def Obligations.FaultLinesLatchAndNote : Prop :=
  ∀ (l : FaultLine) (s : State),
    (s.rstN = true → ∃ t, exec (.faultLineRise l) s = .next t ∧ t = { s with flt.latches := t.flt.latches } ∧
      t.flt.latches.get l = true ∧ ∀ m, m ≠ l → t.flt.latches.get m = s.flt.latches.get m) ∧
    (s.rstN = false → exec (.faultLineRise l) s = .next s) ∧
    (s.rstN = true → s.flt.latches.get l = true →
      (s.flt.actions.ofLine l = .ignore ∨ s.flt.actions.ofLine l = .note ∨ s.mode.state ≠ .active) →
      let v : State := { s with flt.latches := s.flt.latches.put l false }
      let u := if s.flt.actions.ofLine l = .ignore then v else Effect.faultPosted v (.line l) .note
      Effect.Gives (exec (.takeFault l) s) u)

/-- The abort request of a fault source reaches the Rollback Engine in the state `w`, in which FAULT_TAKEN has been posted.
With an empty stack nothing else happens, and a barrier continues; during a rollback the target moves down; otherwise a
rollback starts that owes no answer. -/
def Effect.FaultAborts (o : Host.Outcome State Fault Refusal) (w : State) (all : Bool) : Prop :=
  (w.engine.phase = .idle → w.frames.stack = [] → Effect.Gives o w) ∧
  (∀ n, w.engine.phase ≠ .idle → w.engine.target = some n →
    Effect.Gives o { w with engine.target := some (if all then 0 else n - 1) }) ∧
  (w.engine.phase = .idle → w.frames.stack ≠ [] → (w.up.txns.map Txn.tag).Nodup →
    (w.frames.barrier ≠ none → w.ctl.handshake = .working .openFrame) →
    Effect.Gives o (Effect.rollbackStarted w all .none))

/-- A fault with an abort action taken in ACTIVE, of a line or of FORCE_ABORT. FAULT_TAKEN is posted with the action carried
out and the stack-empty mark. With an empty stack nothing else happens, and a barrier continues; during a rollback the target
moves down; otherwise a rollback starts that owes no answer. A FORCE_ABORT is answered ACK in each case. -/
def Obligations.AbortFaultsReachTheRollbackEngine : Prop :=
  ∀ (i : Instr) (source : FaultSource) (all : Bool) (v s : State),
    s.mode.state = .active →
    ((∃ l, i = .takeFault l ∧ source = .line l ∧ s.rstN = true ∧ s.flt.latches.get l = true ∧
        s.flt.actions.ofLine l = (if all then .abortAll else .abort) ∧
        v = { s with flt.latches := s.flt.latches.put l false }) ∨
      (i = .forceAbort (if all then 0x01#8 else 0x00#8) ∧ source = .supervisor ∧ s.ready i = true ∧
        v = { s with link.frame := .answered [0x00#8] false 0 })) →
    Effect.FaultAborts (exec i s) (Effect.faultPosted v source (if all then .abortAll else .abort)) all

/-- A tick: the pulse count is 0, the tick counter goes up by one, and a running hold timer counts it. -/
def Effect.ticked (s : State) : State :=
  { s with
    flt.pulses := 0
    flt.ticks := s.flt.ticks + 1
    log.hold.value := if s.log.hold.running then s.log.hold.value + 1 else s.log.hold.value }

/-- The deadline counter stops with value 0. -/
def Effect.deadlineStopped (s : State) : State := { s with flt.deadline := { running := false, value := 0 } }

/-- The deadline expires in ACTIVE: the counter stops with value 0, and the DEADLINE source acts by its action in force. -/
def Effect.DeadlineActs (o : Host.Outcome State Fault Refusal) (s : State) : Prop :=
  let v := Effect.deadlineStopped s
  (s.flt.actions.deadline = .ignore → Effect.Gives o v) ∧
  (s.flt.actions.deadline = .note → Effect.Gives o (Effect.faultPosted v .deadline .note)) ∧
  (∀ all : Bool, s.flt.actions.deadline = (if all then .abortAll else .abort) →
    Effect.FaultAborts o (Effect.faultPosted v .deadline (if all then .abortAll else .abort)) all)

/-- TREF_PULSE. Below the divisor the pulse count goes up by one. At the divisor it returns to 0 and a tick occurs: the tick
counter goes up by one, a running hold timer below its limit counts it, and a running deadline counter goes down by one. The
tick that brings it to 0 stops it, and in ACTIVE its action is carried out: NOTE posts FAULT_TAKEN with source DEADLINE, IGNORE
posts nothing, and ABORT and ABORT_ALL post FAULT_TAKEN and start a rollback, or move the target of the one in flight down.
A tick that brings the hold timer to its limit is the subject of `Obligations.HoldExpiryBreaksAndGrants`. -/
def Obligations.PulsesMakeTicks : Prop :=
  ∀ (s : State), s.rstN = true →
    (s.flt.pulses + 1 < s.flt.divisor → Effect.Gives (exec .trefPulse s) { s with flt.pulses := s.flt.pulses + 1 }) ∧
    (s.flt.divisor = s.flt.pulses + 1 → (s.log.hold.running = true → s.log.hold.value + 1 < s.mode.holdLimit) →
      let v := Effect.ticked s
      (s.flt.deadline.running = false → Effect.Gives (exec .trefPulse s) v) ∧
      (∀ n, s.flt.deadline.running = true → s.flt.deadline.value = n + 2 →
        Effect.Gives (exec .trefPulse s) { v with flt.deadline.value := n + 1 }) ∧
      (s.flt.deadline.running = true → s.flt.deadline.value = 1 → s.mode.state = .active →
        Effect.DeadlineActs (exec .trefPulse s) v))

/-- DEADLINE_EXPIRY: a running counter at 0 stops with value 0, and the DEADLINE source acts. NOTE posts FAULT_TAKEN; an
abort action does too, and with a frame on the stack also starts a rollback that owes no answer, or moves the target of the
one in flight down. -/
def Obligations.DeadlineExpiryRaisesItsSource : Prop :=
  ∀ (s : State), s.rstN = true → s.mode.state = .active → s.flt.deadline = { running := true, value := 0 } →
    Effect.DeadlineActs (exec .deadlineExpiry s) s

/-- The break of a frame falls on the lowest INTACT one. Its status becomes BROKEN; the tail moves to the start of the frame
above, or to the head when it is the top; staged records below the tail are discarded; FRAME_BROKEN is posted. No other
frame changes, and a break of the top leaves no write waiting for a capture. -/
def Obligations.BreakFallsOnTheLowestIntactFrame : Prop :=
  ∀ (lows above : List Frame) (f : Frame) (cause : BreakCause) (s : State),
    s.frames.stack = lows ++ f :: above → (∀ g ∈ lows, g.status = .broken) → f.status = .intact →
    let t := s.breakLowest cause
    let tail := (above.head?.map Frame.start).getD s.log.head
    t.frames.stack = lows ++ { f with status := .broken } :: above ∧ t.log.tail = tail ∧ t.log.head = s.log.head ∧
      t.log.staging = s.log.staging.filter (fun e => !seqBelow e.seq tail) ∧
      t.link = s.link.post
        { body := .frameBroken cause, stamp := s.flt.ticks, depth := s.frames.stack.length, serial := f.serial } ∧
      (t.logCount < s.win.capacity → t.log.hold = { running := false, value := 0 }) ∧
      (above ≠ [] → t.up = s.up ∧ t.cap = s.cap ∧ t.down = s.down) ∧
      (above = [] → (∀ k ∈ s.cap.waitList, (s.findTxn k).isSome = true) →
        t.cap.waitList = [] ∧ ∀ k ∈ s.cap.waitList, ∀ e ∈ t.up.txns, e.tag = k → e.stage = .issued)

/-- The timer of a hold time that expires in `s` stops with value 0, and the lowest INTACT frame is broken. -/
def Effect.holdBroken (s : State) : State :=
  ({ s with log.hold := { running := false, value := 0 } } : State).breakLowest .holdExpired

/-- The hold time expires in `s` while the write `k` waits alone. The lowest INTACT frame is broken. Where that was the top, no
write waits any longer; where the write cannot ask for space (no FREE slot, a full Staging Queue), nothing more is broken;
where the log has space, the write is granted: `follows` says what comes of each. Where the log still has no space, the expiry
is repeated: `again` speaks of the state left by the break, with the hold timer as it was in `s`. -/
def Effect.HoldExpires (k : Tag) (s : State) (follows again : State → Prop) : Prop :=
  let b := Effect.holdBroken s
  (b.cap.waitList = [] ∨ b.canAsk = false → follows b) ∧
  (b.cap.waitList = [k] → b.canAsk = true → b.logCount < s.win.capacity → follows b.grantOldest) ∧
  (b.cap.waitList = [k] → b.canAsk = true → s.win.capacity ≤ b.logCount → again { b with log.hold := s.log.hold })

/-- HOLD_EXPIRED, and the tick that brings the hold timer to its limit, while one write waits. The timer stops with value 0
and the lowest INTACT frame is broken with cause HOLD_EXPIRED (`Obligations.BreakFallsOnTheLowestIntactFrame`). A break of the
top ends the wait; where the break frees space, the one waiting write is granted at the same event; where it frees none, the
event goes on as an expiry in the state that the break left, so that the next INTACT frame is broken too, until a grant
succeeds or the top is broken. A running deadline counter takes the tick after that. Where the tick expires both timers,
DEADLINE acts after the breaks (R123); that it acts after the grant too, in the state that the grant left, is the model's
inference (log 18), since R123 speaks of the break alone. With several writes waiting nothing is stated here. -/
def Obligations.HoldExpiryBreaksAndGrants : Prop :=
  ∀ (k : Tag) (s : State), s.rstN = true → s.log.hold.running = true → s.cap.waitList = [k] →
    (s.findTxn k).isSome = true →
    (s.mode.holdLimit ≤ s.log.hold.value →
      Effect.HoldExpires k s (Effect.Gives (exec .holdExpired s)) fun b => exec .holdExpired s = exec .holdExpired b) ∧
    (s.flt.divisor = s.flt.pulses + 1 → s.mode.holdLimit = s.log.hold.value + 1 →
      Effect.HoldExpires k { s with flt.pulses := 0, flt.ticks := s.flt.ticks + 1 }
        (fun w =>
          (w.flt.deadline.running = false → Effect.Gives (exec .trefPulse s) w) ∧
          (∀ n, w.flt.deadline.running = true → w.flt.deadline.value = n + 2 →
            Effect.Gives (exec .trefPulse s) { w with flt.deadline.value := n + 1 }) ∧
          (w.flt.deadline.running = true → w.flt.deadline.value = 1 →
            exec .trefPulse s = exec .deadlineExpiry { w with flt.deadline.value := 0 }))
        fun b => exec .trefPulse s = exec .trefPulse { b with flt.pulses := s.flt.pulses, flt.ticks := s.flt.ticks })

/-- HARD_RESET by RST_N, at power-up while RST_N is low, and RST_N_RISE. Every block takes its hard-reset values with no
event, answer or response. Under RST_N every OUTSTANDING slot becomes STALE with its line and the Capture Map stays; at
power-up every slot is FREE and every map entry is unknown. A rise of RST_N changes the level of the pin. That the levels of
CREQ and CS_N and the request presented are kept (log 8), that RST_N is low at the power-up (log 19), that the record of the
outputs and the queues are kept (logs 10 and 12), that the bit held for SDO is 0 (log 29), and that the unknown map entries
are free values (log 2), are the model's choices. -/
def Obligations.HardResetEndsEverything : Prop :=
  ∀ (c : ResetCause) (s : State), (c = .powerUp → s.rstN = false) →
    (∃ t, exec (.hardReset c) s = .next t ∧
      t.rstN = false ∧ t.mode = State.reset.mode ∧ t.win = State.reset.win ∧ t.up.txns = [] ∧
      t.up.presented = s.up.presented ∧ t.cap.slots = [none, none, none, none] ∧ t.cap.waitList = [] ∧
      t.cap.sweep = { inFlight := true, position := 0 } ∧ t.log = State.reset.log ∧ t.frames = State.reset.frames ∧
      t.engine = State.reset.engine ∧ t.ctl = { State.reset.ctl with creq := s.ctl.creq } ∧
      t.flt = State.reset.flt ∧ t.down.waiting = [] ∧
      t.link = { csN := s.link.csN, frame := .absent, sdo := false, events := [], overrun := false } ∧
      t.obs = s.obs ∧ t.pending = s.pending ∧ t.wire = s.wire ∧
      (c = .rstLow → t.cap.map = s.cap.map ∧ t.down.slots.length = s.down.slots.length ∧
        (∀ n : Nat, s.down.slots[n]? = some DSlot.free → t.down.slots[n]? = some DSlot.free) ∧
        (∀ (n : Nat) o line d, s.down.slots[n]? = some (DSlot.outstanding o line d) → t.down.slots[n]? = some (DSlot.stale line)) ∧
        ∀ (n : Nat) line, s.down.slots[n]? = some (DSlot.stale line) → t.down.slots[n]? = some (DSlot.stale line)) ∧
      (c = .powerUp → t.down.slots = List.replicate 16 .free ∧
        ∃ n, ∀ j, t.cap.map.read j = Config.powerUpMapEntry n j)) ∧
    (s.rstN = false →
      let u : State := { s with rstN := true }
      Effect.Gives (exec .rstNRise s) u)

/-- SWEEP_CLEAR: the entry at the position reads 0 and every other entry as before, and the position goes up by one; the
clearing of the last entry ends the sweep and posts SWEEP_DONE. -/
def Obligations.SweepClearsOneEntry : Prop :=
  ∀ (s : State), s.rstN = true → s.cap.sweep.inFlight = true →
    ∃ t, exec .sweepClear s = .next t ∧
      t.cap.map.read s.cap.sweep.position = 0#16 ∧
      (∀ j, j ≠ s.cap.sweep.position → t.cap.map.read j = s.cap.map.read j) ∧
      (s.cap.sweep.position < 32767 →
        t = { s with
          cap.map := t.cap.map
          cap.sweep := { inFlight := true, position := s.cap.sweep.position + 1 } }) ∧
      (s.cap.sweep.position = 32767 →
        t = { s with
          cap.map := t.cap.map
          cap.sweep := { inFlight := false, position := 32768 }
          link := s.link.post
            { body := .sweepDone, stamp := s.flt.ticks, depth := s.frames.stack.length, serial := 0#16 } })

/-! ### The management link -/

/-- R139. A LEAVE_SETUP taken in SETUP is tested by seven checks in their order, on the setup items of the enabled windows,
whose pages are at least 1 (Table 11.7), and of the log region; a disabled window is not examined. The first check that fails
gives the detail byte after INVALID_SETUP, and the command changes nothing but the frame on the link. -/
def Obligations.LeaveSetupReportsTheFirstFailedCheck : Prop :=
  ∀ (s : State), s.ready .leaveSetup = true → s.mode.state = .setup →
    let win := fun n => windowOfItem (setupItem s.mode.setup n)
    let enabled := fun n => n < 8 ∧ (win n).enable = true
    let first := fun n => (win n).basePage.toNat
    let after := fun n => (win n).basePage.toNat + (win n).pages
    let logStart := (setupLogBase s.mode.setup).toNat * 4096
    let logEnd := logStart + setupCapacity s.mode.setup * 128
    let noWindow := ∀ n, ¬enabled n
    let range := ∃ n, enabled n ∧ ¬after n ≤ 2 ^ 28
    let overlap := ∃ m n p, m ≠ n ∧ enabled m ∧ enabled n ∧ first m ≤ p ∧ p < after m ∧ first n ≤ p ∧ p < after n
    let footprint := ¬(((List.range 8).filter fun n => (win n).enable).map fun n => (win n).pages).sum ≤ 512
    let logSize := ¬∃ k, 6 ≤ k ∧ k ≤ 16 ∧ setupCapacity s.mode.setup = 2 ^ k
    let logRange := ¬logEnd ≤ 2 ^ 40
    let logOverlap := ∃ n b, enabled n ∧ logStart ≤ b ∧ b < logEnd ∧ first n * 4096 ≤ b ∧ b < after n * 4096
    let answer := fun (detail : Byte) =>
      exec .leaveSetup s = .next { s with link.frame := .answered [0x06#8, detail] false 0 }
    (∀ n, enabled n → 1 ≤ (win n).pages) →
    (noWindow → answer 0x01#8) ∧
    (¬noWindow → range → answer 0x02#8) ∧
    (¬noWindow → ¬range → overlap → answer 0x03#8) ∧
    (¬noWindow → ¬range → ¬overlap → footprint → answer 0x04#8) ∧
    (¬noWindow → ¬range → ¬overlap → ¬footprint → logSize → answer 0x05#8) ∧
    (¬noWindow → ¬range → ¬overlap → ¬footprint → ¬logSize → logRange → answer 0x02#8) ∧
    (¬noWindow → ¬range → ¬overlap → ¬footprint → ¬logSize → ¬logRange → logOverlap → answer 0x06#8) ∧
    (¬noWindow → ¬range → ¬overlap → ¬footprint → ¬logSize → ¬logRange → ¬logOverlap →
      ∃ t, exec .leaveSetup s = .next t ∧ t.mode.state = .active)

/-- A LEAVE_SETUP whose checks pass: the part is ACTIVE, the Window Table with its map offsets and the values in force come
from the setup table, the pulse count is 0, SETUP_LEFT is posted and the command is answered ACK. -/
def Effect.setupLeft (s : State) : State :=
  let item := setupItem s.mode.setup
  let win := fun n => windowOfItem (item n)
  let offset := fun n => (((List.range n).filter fun m => (win m).enable).map fun m => 64 * (win m).pages).sum
  let action := fun n => ([FaultAction.ignore, .note, .abort].getD (itemByte (item n) 0).toNat .abortAll)
  { s with
    mode :=
      { state := .active, setup := s.mode.setup
        logPolicy := if itemByte (item 0x0A) 0 = 0x00#8 then .wait else .break
        holdLimit := (itemByte (item 0x0A) 1).toNat
        depthPolicy := if itemByte (item 0x0B) 0 = 0x00#8 then .refuse else .fold
        reservation := itemByte (item 0x0C) 0 != 0x00#8 }
    win :=
      { windows := (List.range 8).map fun n => { win n with mapOffset := if (win n).enable then offset n else 0 }
        logBase := (itemLow (item 0x08)).setWidth 28, capacity := (itemLow (item 0x09)).toNat }
    flt :=
      { s.flt with
        divisor := (itemLow (item 0x0D)).toNat, deadlineIn := (itemLow (item 0x0E)).toNat, pulses := 0
        actions :=
          { flt0 := action 0x0F, flt1 := action 0x10, flt2 := action 0x11, flt3 := action 0x12,
            deadline := action 0x13 } }
    link :=
      { s.link.post { body := .setupLeft, stamp := s.flt.ticks, depth := s.frames.stack.length, serial := 0#16 } with
        frame := .answered [0x00#8] false 0 } }

/-- LEAVE_SETUP whose checks pass: the part is ACTIVE, the Window Table and the values in force come from the setup table,
the pulse count is 0, SETUP_LEFT is posted and the command is answered ACK. Nothing else changes. Outside SETUP it is
answered WRONG_STATE and changes nothing. -/
def Obligations.LeaveSetupBringsTheTableIntoForce : Prop :=
  ∀ (s : State), s.ready .leaveSetup = true →
    (s.mode.state = .setup → validateSetup s.mode.setup = none →
      let u := Effect.setupLeft s
      Effect.Gives (exec .leaveSetup s) u) ∧
    (s.mode.state ≠ .setup → exec .leaveSetup s = .next { s with link.frame := .answered [0x01#8] false 0 })

/-- RECOVER in FAILED: the stack is emptied, a sweep starts at 0, the part is ACTIVE, RECOVERED is posted with depth 0 and no
serial, and the command is answered ACK. -/
def Effect.recovered (s : State) : State :=
  { s with
    mode.state := .active
    frames.stack := []
    cap.sweep := { inFlight := true, position := 0 }
    link :=
      { s.link.post { body := .recovered, stamp := s.flt.ticks, depth := 0, serial := 0#16 } with
        frame := .answered [0x00#8] false 0 } }

/-- ENTER_SETUP and RECOVER empty the stack. ENTER_SETUP from ACTIVE with an empty stack, no rollback and no barrier, and
always from FAILED, leads to SETUP with nothing else changed; from ACTIVE otherwise it is answered BUSY, and in SETUP
WRONG_STATE, with nothing changed. RECOVER in FAILED leads to ACTIVE, starts a sweep at 0 and posts RECOVERED with depth 0
and no serial; elsewhere it is answered WRONG_STATE and changes nothing. -/
def Obligations.EnterSetupAndRecoverEmptyTheStack : Prop :=
  ∀ (s : State),
    let idle := s.frames.stack = [] ∧ s.engine.phase = .idle ∧ s.frames.barrier = none
    let refused := fun (i : Instr) (code : Byte) =>
      exec i s = .next { s with link.frame := .answered [code] false 0 }
    (s.ready .enterSetup = true →
      (s.mode.state = .active ∧ idle ∨ s.mode.state = .failed →
        exec .enterSetup s = .next
          { s with mode.state := .setup, frames.stack := [], link.frame := .answered [0x00#8] false 0 }) ∧
      (s.mode.state = .active → ¬idle → refused .enterSetup 0x04#8) ∧
      (s.mode.state = .setup → refused .enterSetup 0x01#8)) ∧
    (s.ready .recover = true →
      (s.mode.state = .failed →
        let u := Effect.recovered s
        Effect.Gives (exec .recover s) u) ∧
      (s.mode.state ≠ .failed → refused .recover 0x01#8))

/-- A command whose frame is clocked in. `n` of its bits have been received: the bytes already whole, and the bits of the next,
most significant bit first. The rise that samples the next bit leaves all but the frame as it was, and the rise that samples
the last bit carries out the command. The last two clauses are the model's choice (log 12), no rule of the spec: the row of
the command, sent as a command of its own, stands for the bits still to come, so it is ready after any number of bits and then
does what it does at the start of the frame. -/
def Obligations.FramesAreReceivedBitByBit : Prop :=
  ∀ (i : Instr) (f : List Byte) (n : Nat) (rest : List SckEdge) (s : State),
    i.wf = true → encodeFrame i = some f → n < 8 * f.length → s.rstN = true → s.pending = [] →
    let bit := fun k => (f.getD (k / 8) 0#8).getLsbD (7 - k % 8)
    let received := fun k => ({ s with
      wire := rest
      link.frame := .receiving (f.take (k / 8)) ((List.range (k % 8)).map fun j => bit (8 * (k / 8) + j)) } : State)
    let outcome := step { received n with wire := .rise (bit n) :: rest }
    (n + 1 < 8 * f.length → outcome = .next (received (n + 1))) ∧
    (n + 1 = 8 * f.length → outcome = exec i (received 0)) ∧
    (received n).ready i = true ∧ exec i (received n) = exec i (received 0)

/-- R153. STATUS is answered ACK with the fields of Table 11.4, and FRAME_READ with those of Table 11.5 when its index is below
the depth and BAD_ITEM otherwise; neither changes any other state. -/
def Obligations.StatusAndFrameReadReportTheState : Prop :=
  ∀ (s : State),
    (s.ready .status = true →
      ∃ d : List Byte, exec .status s = .next { s with link.frame := .answered (0x00#8 :: d) false 0 } ∧ d.length = 8 ∧
      d[0]? = some (match s.mode.state with
        | .setup => 0x00#8
        | .active => 0x01#8
        | .failed => 0x02#8) ∧
      (s.frames.stack.length ≤ 8 → d[1]?.map BitVec.toNat = some s.frames.stack.length) ∧
      beNat ((d.drop 2).take 2) = ((s.frames.stack.getLast?.map fun f => f.serial.toNat).getD 0) ∧
      ((s.log.head - s.log.tail).toNat ≤ 65536 →
        beNat ((d.drop 4).take 3) = (s.log.head - s.log.tail).toNat) ∧
      ∃ flags, d[7]? = some flags ∧
        flags.getLsbD 0 = s.cap.sweep.inFlight ∧
        (flags.getLsbD 1, flags.getLsbD 2) =
          (match s.engine.phase with
          | .idle => (false, false)
          | .quiesce => (true, false)
          | .unwind => (false, true)) ∧
        flags.getLsbD 3 = s.frames.barrier.isSome ∧ flags.getLsbD 4 = s.ctl.reserved ∧
        flags.getLsbD 5 = s.log.hold.running ∧ flags.getLsbD 6 = s.link.overrun ∧ flags.getLsbD 7 = false) ∧
    (∀ n : Byte, s.ready (.frameRead n) = true →
      (∀ f, s.frames.stack[n.toNat]? = some f →
        ∃ d : List Byte, exec (.frameRead n) s = .next { s with link.frame := .answered (0x00#8 :: d) false 0 } ∧
          d.length = 9 ∧ beNat (d.take 2) = f.serial.toNat ∧ beNat ((d.drop 2).take 4) = f.start.toNat ∧
          d[6]? = some (if f.status = .intact then 0x00#8 else 0x01#8) ∧
          d[7]? = some (if f.origin = .control then 0x00#8 else 0x01#8) ∧
          d[8]? = some (if f.folded then 0x01#8 else 0x00#8)) ∧
      (s.frames.stack.length ≤ n.toNat →
        exec (.frameRead n) s = .next { s with link.frame := .answered [0x02#8] false 0 }))

/-- The six bytes of an event record that Table 11.6 gives: the kind code, then bytes 8 to 12, 0 where it names none. -/
def Effect.table116 : EventBody → List Byte
  | .frameOpened o => [0x01, if o = .control then 0 else 1, 0, 0, 0, 0]
  | .frameCommitted merge => [0x02, if merge then 1 else 0, 0, 0, 0, 0]
  | .framesFolded q => [0x03, q.extractLsb' 8 8, q.extractLsb' 0 8, 0, 0, 0]
  | .frameBroken .logFull => [0x04, 0, 0, 0, 0, 0]
  | .frameBroken .fold => [0x04, 1, 0, 0, 0, 0]
  | .frameBroken .holdExpired => [0x04, 2, 0, 0, 0, 0]
  | .rollbackDone lost removed applied =>
    [0x05, if lost then 5 else 0, BitVec.ofNat 8 removed, BitVec.ofNat 8 (applied / 65536), BitVec.ofNat 8 (applied / 256),
     BitVec.ofNat 8 applied]
  | .faultTaken source action empty =>
    [0x06,
     match source with
     | .line .flt0 => 0
     | .line .flt1 => 1
     | .line .flt2 => 2
     | .line .flt3 => 3
     | .deadline => 4
     | .supervisor => 5,
     match action with
     | .ignore => 0
     | .note => 1
     | .abort => 2
     | .abortAll => 3,
     if empty then 1 else 0, 0, 0]
  | .captureError a =>
    [0x07, a.extractLsb' 32 8, a.extractLsb' 24 8, a.extractLsb' 16 8, a.extractLsb' 8 8, a.extractLsb' 0 8]
  | .logRetry a =>
    [0x08, a.extractLsb' 32 8, a.extractLsb' 24 8, a.extractLsb' 16 8, a.extractLsb' 8 8, a.extractLsb' 0 8]
  | .deviceFailed .logWrite => [0x09, 0, 0, 0, 0, 0]
  | .deviceFailed .check => [0x09, 1, 0, 0, 0, 0]
  | .deviceFailed .sequence => [0x09, 2, 0, 0, 0, 0]
  | .deviceFailed .unwindRead => [0x09, 3, 0, 0, 0, 0]
  | .deviceFailed .unwindWrite => [0x09, 4, 0, 0, 0, 0]
  | .reservationTaken => [0x0A, 0, 0, 0, 0, 0]
  | .reservationCancelled .sweep => [0x0B, 1, 0, 0, 0, 0]
  | .reservationCancelled .failed => [0x0B, 2, 0, 0, 0, 0]
  | .sweepDone => [0x0C, 0, 0, 0, 0, 0]
  | .setupLeft => [0x0D, 0, 0, 0, 0, 0]
  | .recovered => [0x0E, 0, 0, 0, 0, 0]

/-- EVENT_POP on an empty queue is answered EMPTY. Otherwise it is answered ACK with the record at the front, its kind code and
detail bytes as Table 11.6 has them, which stays queued while it is shifted out; the last bit removes it, and with the last
record IRQ_N rises and the overrun flag clears; a frame that ends before leaves the queue, and events posted meanwhile do not
change its front. That the row EVENT_REMOVED does so after any number of bits sent is the model's choice (log 12): the row
stands for the rises up to and with the last, and R157 speaks of the last alone. So is it that the row stands for none of the
falls between those rises, so that SDO keeps its bit (log 12). -/
def Obligations.EventPopRemovesWhenShiftedOut : Prop :=
  ∀ (s : State), s.rstN = true →
    (s.ready .eventPop = true → s.link.events = [] →
      exec .eventPop s = .next { s with link.frame := .answered [0x05#8] false 0 }) ∧
    (∀ e rest, s.ready .eventPop = true → s.link.events = e :: rest →
      ∃ d : List Byte, exec .eventPop s = .next { s with link.frame := .answered (0x00#8 :: d) true 0 } ∧ d.length = 13 ∧
        d.take 1 ++ d.drop 8 = Effect.table116 e.body ∧ beNat ((d.drop 1).take 4) = e.stamp.toNat ∧
        (e.depth ≤ 8 → d[5]?.map BitVec.toNat = some e.depth) ∧ beNat ((d.drop 6).take 2) = e.serial.toNat) ∧
    (∀ d n e rest, s.link.frame = .answered d true n → s.link.events = e :: rest →
      (∃ t, exec .eventRemoved s = .next t ∧
        t = { s with
          link :=
            { s.link with
              frame := .answered d false (8 * d.length), events := rest, overrun := s.link.overrun && !rest.isEmpty } } ∧
        t.irqN = rest.isEmpty) ∧
      (s.link.csN = false →
        exec .csNRise s = .next { s with link := { s.link with csN := true, frame := .absent } }) ∧
      ∀ x, ∃ more, (s.link.post x).events = e :: more)

/-- The commands that carry an item, a value or an operand are tested for state, item and value in this order. An accepted
SETUP_WRITE replaces the item whole. SETUP_READ, in any operating state, returns the item's six bytes, or BAD_ITEM.
FORCE_ABORT outside ACTIVE is answered WRONG_STATE before its operand is tested, and in ACTIVE with an operand that is neither
top nor all BAD_VALUE; no fault is raised. A byte that names no command is answered BAD_VALUE. A refusal changes nothing but
the answer. -/
def Obligations.LinkCommandsTestStateItemAndValue : Prop :=
  ∀ (n : Byte) (v : ItemValue) (s : State), s.mode.setup.length = 20 →
    let answered := fun (r : List Byte) => ({ s with link.frame := .answered r false 0 } : State)
    (s.ready (.setupWrite n v) = true →
      (s.mode.state ≠ .setup → exec (.setupWrite n v) s = .next (answered [0x01#8])) ∧
      (s.mode.state = .setup → 20 ≤ n.toNat → exec (.setupWrite n v) s = .next (answered [0x02#8])) ∧
      (s.mode.state = .setup → n.toNat < 20 → itemInRange n.toNat v = false →
        exec (.setupWrite n v) s = .next (answered [0x03#8])) ∧
      (s.mode.state = .setup → n.toNat < 20 → itemInRange n.toNat v = true →
        ∃ t, exec (.setupWrite n v) s = .next t ∧
          t = { answered [0x00#8] with mode.setup := t.mode.setup } ∧ t.mode.setup.length = 20 ∧
          setupItem t.mode.setup n.toNat = v ∧
          ∀ m, m ≠ n.toNat → setupItem t.mode.setup m = setupItem s.mode.setup m)) ∧
    (s.ready (.setupRead n) = true →
      (20 ≤ n.toNat → exec (.setupRead n) s = .next (answered [0x02#8])) ∧
      (n.toNat < 20 → ∃ d : List Byte, exec (.setupRead n) s = .next (answered (0x00#8 :: d)) ∧ d.length = 6 ∧
        beNat d = (setupItem s.mode.setup n.toNat).toNat)) ∧
    (s.ready (.forceAbort n) = true →
      (s.mode.state ≠ .active → exec (.forceAbort n) s = .next (answered [0x01#8])) ∧
      (s.mode.state = .active → 1 < n.toNat → exec (.forceAbort n) s = .next (answered [0x03#8]))) ∧
    (s.ready (.unknownCommand n) = true → n = 0x00#8 ∨ 9 < n.toNat →
      exec (.unknownCommand n) s = .next (answered [0x03#8]))

/-- A frame begins at a fall of CS_N and ends at its rise: the link then takes no command, the queue stays, and the next fall
begins a new frame, ignored if RST_N is low. SDO is not driven while CS_N is high or RST_N is low. In a frame that is taken it
is driven, changes at a fall of SCK, and carries the response, most significant bit first, after zeros while the command is
received and before zeros when the response has ended. A rise while a response is sent counts one bit of it, whatever SDI is,
and the last bit of a popped record removes the record; where no frame is taken a rise is ignored. That a command received
where no frame is being received does nothing is the model's choice (log 4). So is the bit 0 held for SDO in a frame begun
while RST_N is low, which SDO shows if RST_N rises before the frame ends (log 29): R150 says only that the bytes of such a
frame are ignored. -/
def Obligations.LinkFramesBeginAndEndWithCsN : Prop :=
  ∀ (s : State),
    (s.link.csN = true → s.rstN = true →
      exec .csNFall s = .next { s with link := { s.link with csN := false, frame := .receiving [] [], sdo := false } }) ∧
    (s.link.csN = true → s.rstN = false →
      exec .csNFall s = .next { s with link := { s.link with csN := false, frame := .absent, sdo := false } }) ∧
    (s.link.csN = false →
      ∃ t, exec .csNRise s = .next t ∧ t = { s with link := { s.link with csN := true, frame := .absent } } ∧
        t.sdoPin = none ∧
        ∀ i ∈ [Instr.status, .eventPop, .eventRemoved, .frameRead 0, .setupRead 0, .setupWrite 0 0, .enterSetup,
          .leaveSetup, .recover, .forceAbort 0, .unknownCommand 0], exec i t = .next t) ∧
    (s.rstN = false → s.sdoPin = none) ∧
    (s.pending = [] → s.rstN = true → s.link.csN = false → ∀ rest : List SckEdge,
      let shows := fun (b : Bool) =>
        ∃ t, step { s with wire := .fall :: rest } = .next t ∧ t.sdoPin = some b ∧
          t = { s with wire := rest, link.sdo := b }
      let rises := fun (sdi : Bool) => step { s with wire := .rise sdi :: rest }
      (∀ bytes bits, s.link.frame = .receiving bytes bits → shows false) ∧
      (s.link.frame = .absent → ∀ sdi, rises sdi = .next { s with wire := rest }) ∧
      ∀ d popping n, s.link.frame = .answered d popping n →
        (n < 8 * d.length → shows ((d.getD (n / 8) 0#8).getLsbD (7 - n % 8))) ∧ (n = 8 * d.length → shows false) ∧
        ∀ sdi,
          (n + 1 < 8 * d.length ∨ n + 1 = 8 * d.length ∧ popping = false →
            rises sdi = .next { s with wire := rest, link.frame := .answered d popping (n + 1) }) ∧
          (n + 1 = 8 * d.length → popping = true → rises sdi = exec .eventRemoved { s with wire := rest }) ∧
          (n = 8 * d.length → rises sdi = .next { s with wire := rest }))

/-! ### Captures and the log -/

/-- The staged record of sequence `q` takes a content. -/
def Effect.staged (s : State) (q : Seq) (content : Content) : List StagingEntry :=
  s.log.staging.map fun r => if r.seq == q then { r with content := content } else r

/-- The capture slot `n` and the downstream slot `k` become FREE. -/
def Effect.captureEnded (s : State) (k : DTag) (n : Nat) : State :=
  { s with cap.slots := s.cap.slots.set n none, down.slots := s.down.slots.set k.toNat .free }

/-- The entry is issued. -/
def Effect.issued (s : State) (e : Txn) : State :=
  { s with
    up := s.up.setStage e.tag .issued
    frames.barrier := s.frames.barrier.map (·.filter (· != e.tag))
    down.waiting := s.down.waiting ++ [Effect.ownRequest e] }

/-- An OK completes a retained record: it becomes an IMAGE and the map entry takes the serial used. -/
def Effect.recordMade (s : State) (c : CaptureSlot) (d : LineData) : State :=
  { s with log.staging := Effect.staged s c.seq (.image d), cap.map := s.cap.map.write c.mapIndex c.serial }

/-- An ERR makes a retained record VOID. -/
def Effect.recordVoid (s : State) (c : CaptureSlot) : State :=
  { s with log.staging := Effect.staged s c.seq .void }

/-- PRE_IMAGE_RESPONSE for a slot that is not abandoned, whose write is present and whose record is retained. OK: the record
becomes an IMAGE, the map entry takes the serial used, and the write is issued. ERR: the record becomes VOID, the map stays,
the write is answered MEMERR, and CAPTURE_ERROR is posted. The capture slot and the downstream slot become FREE. -/
def Obligations.PreImageResponseCompletesTheCapture : Prop :=
  ∀ (k : DTag) (n : Nat) (line : Addr) (c : CaptureSlot) (e : Txn) (s : State),
    s.rstN = true → s.dslot k = .outstanding (.slot n) line false → s.cap.slots.getD n none = some c →
    c.abandoned = false → c.write = some e.tag → s.findTxn e.tag = some e →
    (∃ r ∈ s.log.staging, r.seq = c.seq ∧ r.content = .pending) →
    let v := Effect.captureEnded s k n
    (∀ d : LineData,
      let u := Effect.issued (Effect.recordMade v c d) e
      Effect.Gives (exec (.preImageResponse k (.ok d)) s) u) ∧
    (∀ resp, resp = LineResponse.err →
      let u := Effect.posted (Effect.answered (Effect.recordVoid v c) e.tag .memerr []) (.captureError c.line) c.serial
      Effect.Gives (exec (.preImageResponse k resp) s) u)

/-- PRE_IMAGE_RESPONSE in the other cases. An abandoned slot only becomes FREE. With the write absent, a retained record is
still completed, IMAGE with the map entry written or VOID with CAPTURE_ERROR; a record below the tail is not made, and an
ERR still posts CAPTURE_ERROR. With the write present and the record below the tail, an OK issues the write, an ERR answers it
MEMERR and posts CAPTURE_ERROR, and no map entry is written. That a record is below the tail exactly when no PENDING entry of
its sequence is staged is the model's reading (log 14). -/
def Obligations.PreImageResponseWithoutWriteOrRecord : Prop :=
  ∀ (k : DTag) (n : Nat) (line : Addr) (c : CaptureSlot) (resp : LineResponse) (s : State),
    s.rstN = true → s.dslot k = .outstanding (.slot n) line false → s.cap.slots.getD n none = some c →
    let retained := ∃ r ∈ s.log.staging, r.seq = c.seq ∧ r.content = .pending
    let v := Effect.captureEnded s k n
    (c.abandoned = true → Effect.Gives (exec (.preImageResponse k resp) s) v) ∧
    (c.abandoned = false → c.write = none → retained → ∀ d, resp = .ok d →
      let u := Effect.recordMade v c d
      Effect.Gives (exec (.preImageResponse k resp) s) u) ∧
    (c.abandoned = false → c.write = none → retained → resp = .err →
      let u := Effect.posted (Effect.recordVoid v c) (.captureError c.line) c.serial
      Effect.Gives (exec (.preImageResponse k resp) s) u) ∧
    (c.abandoned = false → c.write = none → ¬retained →
      let u := if resp = .err then Effect.posted v (.captureError c.line) c.serial else v
      Effect.Gives (exec (.preImageResponse k resp) s) u) ∧
    (∀ e d, c.abandoned = false → c.write = some e.tag → s.findTxn e.tag = some e → ¬retained → resp = .ok d →
      let u := Effect.issued v e
      Effect.Gives (exec (.preImageResponse k resp) s) u) ∧
    (∀ e, c.abandoned = false → c.write = some e.tag → s.findTxn e.tag = some e → ¬retained → resp = .err →
      let u := Effect.posted (Effect.answered v e.tag .memerr []) (.captureError c.line) c.serial
      Effect.Gives (exec (.preImageResponse k resp) s) u)

/-- CAPTURE_GRANT. Below the capacity the one waiting write takes the head as its sequence, a PENDING record, a FREE slot and a
pre-image read. At the capacity under WAIT the hold timer runs and the write waits; under BREAK the lowest INTACT frame is
broken with cause LOG_FULL, and either the write still waits and the grant is attempted again, or the break was that of the
top and no write waits any longer. That the FREE slot is the one with the lowest index is the model's choice (log 24). -/
def Obligations.CaptureGrantReservesTheHead : Prop :=
  ∀ (e : Txn) (n : Nat) (f : Frame) (s : State),
    s.rstN = true → s.engine.phase = .idle → s.frames.stack.getLast? = some f → f.status = .intact →
    s.cap.waitList = [e.tag] → s.findTxn e.tag = some e → s.cap.slots.findIdx? Option.isNone = some n →
    s.log.staging.length < 8 →
    (s.logCount < s.win.capacity →
      let u := Effect.captureGranted s e n f
      Effect.Gives (exec .captureGrant s) u) ∧
    (s.win.capacity ≤ s.logCount → s.mode.logPolicy = .wait →
      Effect.Gives (exec .captureGrant s)
        { s with log.hold := if s.log.hold.running then s.log.hold else { running := true, value := 0 } }) ∧
    (s.win.capacity ≤ s.logCount → s.mode.logPolicy = .break →
      let b := s.breakLowest .logFull
      (b.cap.waitList = [e.tag] → exec .captureGrant s = exec .captureGrant b) ∧
      (b.cap.waitList = [] → Effect.Gives (exec .captureGrant s) b))

/-- The slot of a sequence in the log region: its header line; the image line is 64 bytes on. -/
def Effect.slotOf (s : State) (q : Seq) : Addr :=
  BitVec.ofNat 40 (s.win.logBase.toNat * 4096 + q.toNat % s.win.capacity * 128)

/-- An attempt to write the record `e` begins: the writer counts from 0 and the two line writes are handed over. -/
def Effect.attempt (s : State) (e : StagingEntry) (which : Attempt) : State :=
  { s with
    log.writer := some { seq := e.seq, attempt := which, orphaned := false, answers := 0, anyErr := false }
    down.waiting := s.down.waiting ++
      [{ origin := .logHeader, dir := .write, addr := Effect.slotOf s e.seq, length := 8,
         beats := lineBeats (headerLine e) },
       { origin := .logImage, dir := .write, addr := Effect.slotOf s e.seq + 64#40, length := 8,
         beats := lineBeats (storedImage e.content) }] }

/-- LOG_WRITER_START on a READY front hands the header line and the image line of the record's slot. LOG_WRITE_RESPONSE: the
first response is only counted; the second ends the attempt, and two OK answers store the record, which leaves the queue. -/
def Obligations.LogWriterStoresTheFrontRecord : Prop :=
  ∀ (e : StagingEntry) (rest : List StagingEntry) (s : State), s.rstN = true → s.log.staging = e :: rest →
    (s.log.writer = none → s.mode.state = .active → s.engine.phase = .idle → e.content ≠ .pending →
      let u := Effect.attempt s e .first
      Effect.Gives (exec .logWriterStart s) u) ∧
    (∀ (k : DTag) (o : Origin) (line : Addr) (resp : MemStatus) (j : WriterJob),
      s.dslot k = .outstanding o line false → (o = .logHeader ∨ o = .logImage) → s.log.writer = some j →
      let v := Effect.slotFreed s k
      (j.answers = 0 →
        let u : State := { v with log.writer := some { j with answers := 1, anyErr := j.anyErr || resp == .err } }
        Effect.Gives (exec (.logWriteResponse k resp) s) u) ∧
      (j.answers = 1 → j.orphaned = false → j.seq = e.seq → j.anyErr = false → resp = .ok →
        let u : State := { v with log.writer := none, log.staging := (e :: rest).filter (·.seq != e.seq) }
        Effect.Gives (exec (.logWriteResponse k resp) s) u))

/-- The end of an attempt with an ERR. A first attempt is retried whole, with LOG_RETRY; an orphaned write only makes the
writer idle. -/
def Obligations.FailedAttemptIsRetriedAndOrphanIgnored : Prop :=
  ∀ (k : DTag) (o : Origin) (line : Addr) (resp : MemStatus) (j : WriterJob) (s : State),
    s.rstN = true → s.dslot k = .outstanding o line false → (o = .logHeader ∨ o = .logImage) →
    s.log.writer = some j → j.answers = 1 →
    let v := Effect.slotFreed s k
    (∀ e, j.orphaned = false → s.log.staging.find? (·.seq == j.seq) = some e → j.attempt = .first →
      (j.anyErr = true ∨ resp = .err) →
      let u := Effect.attempt (Effect.posted v (.logRetry (Effect.slotOf s e.seq)) e.serial) e .second
      Effect.Gives (exec (.logWriteResponse k resp) s) u) ∧
    (j.orphaned = true →
      let u : State := { v with log.writer := none }
      Effect.Gives (exec (.logWriteResponse k resp) s) u)

/-- Entry to FAILED at an ERR that answers the write-back in the downstream slot `k`. -/
def Effect.failed (s : State) (k : DTag) : State :=
  let dropped := fun d : DSlot =>
    match d with
    | .outstanding o l m => .outstanding o l (m || o == .unwindHeader || o == .unwindImage || o == .writeBack)
    | d => d
  let v := Effect.posted s (.deviceFailed .unwindWrite) (Effect.topSerial s)
  let unissued := fun e : Txn => e.isGuarded && e.stage != .issued
  { s with
    mode.state := .failed
    up.txns := s.up.txns.filter fun e => !unissued e
    obs.responses := s.obs.responses ++
      (s.up.txns.filter unissued).map fun e => { tag := e.tag, code := .denied, data := [] }
    cap.slots := s.cap.slots.map (Option.map fun c => { c with write := none, abandoned := true })
    cap.waitList := []
    log :=
      { head := s.log.head, tail := s.log.head, staging := []
        writer := s.log.writer.map fun j => { j with orphaned := true }
        hold := { running := false, value := 0 } }
    frames.stack := s.frames.stack.map fun f => { f with status := .broken }
    frames.barrier := none
    engine := { phase := .idle, target := none, owed := .none, quiesce := [], hand := none, applied := 0 }
    ctl :=
      { creq := s.ctl.creq
        handshake :=
          match s.ctl.handshake with
          | .working r => .answered r
          | h => h
        cresp :=
          match s.ctl.handshake with
          | .working _ => .failed
          | _ => s.ctl.cresp
        reserved := false }
    flt.deadline.running := false
    down :=
      { slots := (s.down.slots.set k.toNat .free).map dropped
        waiting := s.down.waiting.filter fun w =>
          w.origin != .unwindHeader && w.origin != .unwindImage && w.origin != .writeBack }
    link := (if s.ctl.reserved then Effect.posted v (.reservationCancelled .failed) 0#16 else v).link }

/-- Entry to FAILED, here by an ERR that answers a write-back. Every GUARDED entry not yet issued is answered DENIED and freed,
in order of age. Every frame is BROKEN and keeps its other fields; the tail moves to the head and the Staging Queue is empty;
the rollback, the barrier and the timers end; an answer owed is FAILED; READING slots are abandoned, a record write is
orphaned, rollback traffic is withdrawn or dropped; DEVICE_FAILED and then, for a held reservation, RESERVATION_CANCELLED are
posted. -/
def Obligations.FailureEntersFailed : Prop :=
  ∀ (k : DTag) (line : Addr) (s : State),
    s.rstN = true → s.dslot k = .outstanding .writeBack line false → (s.up.txns.map Txn.tag).Nodup →
    Effect.Gives (exec (.writeBackResponse k .err) s) (Effect.failed s k)

/-- The other failure causes lead to FAILED too, each with its own DEVICE_FAILED: a second failed attempt of a record write,
an ERR on either read of an unwind step, and a record that fails verification. -/
def Obligations.EveryFailureCauseIsReported : Prop :=
  ∀ (k : DTag) (o : Origin) (line : Addr) (s : State),
    s.rstN = true → s.dslot k = .outstanding o line false → s.link.events = [] →
    let reports := fun (i : Instr) (cause : FailCause) =>
      ∃ t more, exec i s = .next t ∧ t.mode.state = .failed ∧ (∀ f ∈ t.frames.stack, f.status = .broken) ∧
        t.link.events =
          { body := .deviceFailed cause, stamp := s.flt.ticks, depth := s.frames.stack.length,
            serial := (s.frames.stack.getLast?.map Frame.serial).getD 0#16 } :: more
    (∀ j resp, (o = .logHeader ∨ o = .logImage) → s.log.writer = some j → j.answers = 1 → j.orphaned = false →
      j.attempt = .second → (s.log.staging.find? (·.seq == j.seq)).isSome = true → (j.anyErr = true ∨ resp = .err) →
      reports (.logWriteResponse k resp) .logWrite) ∧
    (∀ h hd im, (o = .unwindHeader ∧ h.step = .reading none (some im) ∨ o = .unwindImage ∧ h.step = .reading (some hd) none) →
      s.engine.hand = some h →
      let header := if o = .unwindHeader then im else hd
      (∀ resp, resp = .err ∨ header = .err → reports (.unwindReadResponse k resp) .unwindRead) ∧
      ∀ d x cause, header = .ok x →
        verifyRecord h.seq (if o = .unwindHeader then d else x) (if o = .unwindHeader then x else d) = .fails cause →
          reports (.unwindReadResponse k (.ok d)) cause)

/-! ### Rollback -/

/-- A step takes the record of sequence `q` from the Staging Queue: its image `d` goes back to `line`. -/
def Effect.stagedStep (s : State) (q : Seq) (line : Addr) (d : LineData) : State :=
  { s with
    engine.phase := .unwind
    engine.hand := some { seq := q, source := .staging, step := .writing }
    down.waiting := s.down.waiting ++
      [{ origin := .writeBack, dir := .write, addr := line, length := 8, beats := lineBeats d }] }

/-- A step takes the record of sequence `q` from the log region: the reads of its two lines are handed over, the header's
first. That it is the first is the model's choice (log 30). -/
def Effect.regionStep (s : State) (q : Seq) : State :=
  { s with
    engine.phase := .unwind
    engine.hand := some { seq := q, source := .region, step := .reading none none }
    down.waiting := s.down.waiting ++
      [{ origin := .unwindHeader, dir := .read, addr := Effect.slotOf s q, length := 8, beats := [] },
       { origin := .unwindImage, dir := .read, addr := Effect.slotOf s q + 64#40, length := 8, beats := [] }] }

/-- UNWIND stands between two steps in the state `v`, at its beginning or because a step has ended: the outcome is that of the
completion of the rollback where `v` is at the stop point or has none, and that of the next step otherwise. No barrier is in
flight during a rollback, and no two entries have one tag. -/
def Effect.StepEnded (o : Host.Outcome State Fault Refusal) (v : State) : Prop :=
  v.frames.barrier = none → (v.up.txns.map Txn.tag).Nodup → v.calmBeforeUnwind = true →
    (v.atStop = true → o = exec .rollbackCompletion v) ∧ (v.atStop = false → o = exec .unwindStep v)

/-- QUIESCE_END and UNWIND_STEP. When QUIESCE ends the phase is UNWIND, and at that event the rollback completes where the head
is at the stop point or there is none, and takes its first step otherwise. A step takes the record below the head: the back
IMAGE entry of the Staging Queue, whose write-back is handed over, or, with the queue empty, the slot in the region, whose two
reads are handed over. That the header's read is handed first is the model's choice (log 30). A back entry that is VOID leaves
the queue, the head moves down, and at that event the rollback completes at the stop point and takes its next step
otherwise. -/
def Obligations.UnwindStepsTakeTheRecordBelowTheHead : Prop :=
  ∀ (i : Instr) (s : State), s.rstN = true →
    (i = .quiesceEnd ∧ s.engine.phase = .quiesce ∧ s.engine.hand = none ∧ s.quiesceOver = true ∧
        s.upstreamCalm = true ∧ s.frames.barrier ≠ some [] ∧ s.writerFront = none ∨
      i = .unwindStep ∧ s.engine.phase = .unwind ∧ s.engine.hand = none) →
    (i = .quiesceEnd → Effect.StepEnded (exec i s) { s with engine.phase := .unwind }) ∧
    (s.atStop = false → ∀ e d, s.log.staging.getLast? = some e → e.content = .image d →
      let u := Effect.stagedStep s (s.log.head - 1#32) e.line d
      Effect.Gives (exec i s) u) ∧
    (s.atStop = false → s.log.staging = [] →
      let u := Effect.regionStep s (s.log.head - 1#32)
      Effect.Gives (exec i s) u) ∧
    (s.atStop = false → ∀ e, s.log.staging.getLast? = some e → e.content = .void →
      let v : State :=
        { s with engine.phase := .unwind, log.staging := s.log.staging.dropLast, log.head := s.log.head - 1#32 }
      Effect.StepEnded (exec i s) v)

/-- UNWIND_READ_RESPONSE. The first of the two answers is kept with the record in hand; the second lets the record be
verified. An IMAGE record's write-back is handed over to the line it names. A VOID record needs none: the head moves down, and
at that event the rollback completes at the stop point and takes its next step otherwise. -/
def Obligations.UnwindReadsLeadToTheWriteBack : Prop :=
  ∀ (k : DTag) (isHeader : Bool) (line : Addr) (h : Hand) (d : LineData) (s : State),
    s.rstN = true → s.dslot k = .outstanding (if isHeader then .unwindHeader else .unwindImage) line false →
    s.engine.hand = some h →
    let v := Effect.slotFreed s k
    (h.step = .reading none none →
      let u : State :=
        { v with
          engine.hand := some { h with
            step := if isHeader then .reading (some (.ok d)) none else .reading none (some (.ok d)) } }
      Effect.Gives (exec (.unwindReadResponse k (.ok d)) s) u) ∧
    (∀ x target image,
      h.step = (if isHeader then .reading none (some (.ok x)) else .reading (some (.ok x)) none) →
      verifyRecord h.seq (if isHeader then d else x) (if isHeader then x else d) = .image target image →
      let u : State :=
        { v with
          engine.hand := some { h with step := .writing }
          down.waiting := s.down.waiting ++
            [{ origin := .writeBack, dir := .write, addr := target, length := 8, beats := lineBeats image }] }
      Effect.Gives (exec (.unwindReadResponse k (.ok d)) s) u) ∧
    (∀ x,
      h.step = (if isHeader then .reading none (some (.ok x)) else .reading (some (.ok x)) none) →
      verifyRecord h.seq (if isHeader then d else x) (if isHeader then x else d) = .void → s.engine.phase = .unwind →
      Effect.StepEnded (exec (.unwindReadResponse k (.ok d)) s)
        { v with engine.hand := none, log.head := s.log.head - 1#32 })

/-- A write-back is answered OK: the record is applied, the head moves down by one, and a staged record leaves the queue. -/
def Effect.recordApplied (s : State) (k : DTag) (h : Hand) : State :=
  { Effect.slotFreed s k with
    engine.hand := none
    engine.applied := s.engine.applied + 1
    log.head := s.log.head - 1#32
    log.staging := if h.source = .staging then s.log.staging.dropLast else s.log.staging }

/-- WRITE_BACK_RESPONSE with OK: the record is applied, the head moves down by one, a staged record leaves the queue. At that
event the rollback completes at the stop point, and takes its next step otherwise, staged or from the region; with the queue
then empty, the step's two reads are handed over, the header's first by the model's choice (log 30). -/
def Obligations.WriteBackAppliesTheRecord : Prop :=
  ∀ (k : DTag) (line : Addr) (h : Hand) (s : State),
    s.rstN = true → s.dslot k = .outstanding .writeBack line false → s.engine.hand = some h → s.engine.phase = .unwind →
    let v := Effect.recordApplied s k h
    Effect.StepEnded (exec (.writeBackResponse k .ok) s) v ∧
    (v.calmBeforeUnwind = true → v.atStop = false → v.log.staging = [] →
      let u := Effect.regionStep v (s.log.head - 2#32)
      Effect.Gives (exec (.writeBackResponse k .ok) s) u)

/-- A rollback completes that removes the frames `f :: above` over the frames `below`, with no reservation. -/
def Effect.completed (s : State) (below : List Frame) (f : Frame) (above : List Frame) : State :=
  let lost := (f :: above).any fun g => g.status == .broken
  let emptied := below.isEmpty
  let answer : CtlAnswer := if s.engine.owed = .noFrame then .noFrame else if lost then .partialDone else .done
  { s with
    frames.stack := below
    log.tail := if emptied then s.log.head else s.log.tail
    log.staging := if emptied then s.log.staging.filter (fun e => !seqBelow e.seq s.log.head) else s.log.staging
    log.writer := if emptied then s.log.writer.map (Effect.orphanedBelow s) else s.log.writer
    log.hold := if emptied ∧ 0 < s.win.capacity then { running := false, value := 0 } else s.log.hold
    link := s.link.post
      { body := .rollbackDone lost (above.length + 1) s.engine.applied, stamp := s.flt.ticks, depth := below.length,
        serial := f.serial }
    ctl := if s.engine.owed = .none then s.ctl else s.ctl.answer answer
    flt.deadline :=
      if emptied then s.flt.deadline else { running := decide (1 ≤ s.flt.deadlineIn), value := s.flt.deadlineIn }
    engine := { phase := .idle, target := none, owed := .none, quiesce := [], hand := none, applied := 0 } }

/-- The part of a completion that a reservation takes: the choice `c` is pushed with origin RESERVED and RESERVATION_TAKEN
follows FRAME_OPENED, or, where the choice would wrap during a sweep, the reservation is cancelled with cause SWEEP. -/
def Effect.reservationTaken (s : State) (c : Serial) (wraps : Bool) : State :=
  let v : State := { s with ctl.reserved := false }
  if wraps = true ∧ s.cap.sweep.inFlight = true then Effect.posted v (.reservationCancelled .sweep) 0#16
  else Effect.posted (Effect.pushed v c wraps .reserved) .reservationTaken c

/-- ROLLBACK_COMPLETION. The frames above the target go, the tail moves to the head when none is left and the deadline counter
is loaded otherwise, ROLLBACK_DONE is posted, the control request is answered as it is owed, and the engine is IDLE. A
reservation is then taken or cancelled, and the entries that the rollback held are released, in order of age. -/
def Obligations.CompletionPopsTheFrames : Prop :=
  ∀ (f : Frame) (above below : List Frame) (s : State),
    s.rstN = true → s.engine.phase = .unwind → s.engine.hand = none → s.engine.target = some below.length →
    s.frames.stack = below ++ f :: above → s.atStop = true → s.tableOk = true → s.cap.waitList = [] →
    let v := Effect.completed s below f above
    (s.ctl.reserved = false → Effect.Gives (exec .rollbackCompletion s) (Effect.released v .rollback)) ∧
    (s.ctl.reserved = true → ∀ n c wraps, Effect.Chosen v n c wraps →
      Effect.Gives (exec .rollbackCompletion s) (Effect.released (Effect.reservationTaken v c wraps) .rollback))

/-! ### The downstream port -/

/-- The beats with which a request is issued: those of its own entry for a passthrough request (none where the entry holds no
data, as for a read), and those it was handed with for any other. -/
def Effect.beatsOf (s : State) (w : Waiting) : List WriteBeat :=
  match w.origin with
  | .txn k =>
    match s.up.txns.find? fun e => e.tag == k with
    | some e => e.data.getD []
    | none => []
  | .slot _ | .logHeader | .logImage | .unwindHeader | .unwindImage | .writeBack => w.beats

/-- The request `w` is granted the slot with tag `n`: the slot is OUTSTANDING with the request's origin and line, the request
leaves its queue and is issued with its own direction, address, length and beats, and a granted write's data leaves its own
entry alone. -/
def Effect.granted (s : State) (w : Waiting) (n : Nat) : State :=
  { s with
    down :=
      { slots := s.down.slots.set n (.outstanding w.origin (lineOf w.addr) false), waiting := s.down.waiting.erase w }
    up :=
      { presented := s.up.presented
        txns := s.up.txns.map fun e => if w.origin = .txn e.tag then { e with data := none } else e
        nextAge := s.up.nextAge }
    obs.issued := s.obs.issued ++
      [{ tag := n, dir := w.dir, addr := w.addr, length := w.length, beats := Effect.beatsOf s w }] }

/-- The arbiter's choice, and DOWNSTREAM_GRANT. What is chosen is eligible: no slot holds its line and no request to its line
was handed before it; no eligible request is of a source of higher priority; within the passthrough source none belongs to an
older entry, and within any other source none was handed earlier. The FREE slot with the lowest tag becomes OUTSTANDING, the
request leaves its queue and is issued with that tag: a passthrough write with the data and strobes of its entry, unchanged,
which are taken from that entry alone, and any other write with the beats it was handed with. Grants are made one after
another, until no slot is FREE or no request is eligible. -/
def Obligations.GrantsFollowThePriorities : Prop :=
  ∀ (s : State),
    let rank := fun w : Waiting => [Source.rollback, .capture, .log, .passthrough].idxOf w.origin.source
    let eligible := fun (earlier : List Waiting) (w : Waiting) =>
      (∀ d ∈ s.down.slots, d.line? ≠ some (lineOf w.addr)) ∧ ∀ x ∈ earlier, lineOf x.addr ≠ lineOf w.addr
    (∀ w, s.nextGrant = some w → ∃ pre post, s.down.waiting = pre ++ w :: post ∧ eligible pre w ∧
      ∀ pre' x post', s.down.waiting = pre' ++ x :: post' → eligible pre' x →
        rank w ≤ rank x ∧ (rank x = 3 → rank w = 3 → s.waitingAge w ≤ s.waitingAge x) ∧
          (rank x = rank w → rank w < 3 → pre.length ≤ pre'.length)) ∧
    (s.nextGrant = none ↔ ∀ pre x post, s.down.waiting = pre ++ x :: post → ¬eligible pre x) ∧
    (∀ w n, s.rstN = true → s.nextGrant = some w →
      s.down.slots[n]? = some .free → (∀ m < n, s.down.slots[m]? ≠ some .free) →
      exec .downstreamGrant s = exec .downstreamGrant (Effect.granted s w n) ∧
      (s.down.waiting = [w] → exec .downstreamGrant s = .next (Effect.granted s w n))) ∧
    (s.nextGrant = none ∨ (∀ d ∈ s.down.slots, d ≠ .free) → exec .downstreamGrant s = .next s)

/-- A response that names a STALE slot, or a dropped one, frees the slot and tells no block; one that names a FREE slot
changes nothing. -/
def Obligations.DiscardedResponsesTellNoBlock : Prop :=
  ∀ (k : DTag) (s : State),
    (s.dslot k = .free → exec (.discardedResponse k) s = .next s) ∧
    ((∃ line, s.dslot k = .stale line ∨ ∃ o, s.dslot k = .outstanding o line true) →
      let u := Effect.slotFreed s k
      (s.rstN = false → exec (.discardedResponse k) s = .next u) ∧
      (s.rstN = true → Effect.Gives (exec (.discardedResponse k) s) u))
end

