-- ==== Sys2Proof/Laws/CaptureMap.lean ====
section
/-! SUPPORT. The laws of the Capture Map, the block's addressed RAM: an entry reads as what was written to it last, other
entries stay, and every operation keeps the canonical form. -/

namespace Sys2Proof.Machine

/-! ### Reading the list -/

theorem lookup_cons_if (j k : Nat) (w : Serial) (l : List (Nat × Serial)) :
    List.lookup j ((k, w) :: l) = if j = k then some w else l.lookup j := by
  rw [List.lookup_cons]
  by_cases h : j = k
  · simp [h]
  · simp [h, beq_false_of_ne h]

theorem lookup_putEntry (i j : Nat) (v : Serial) :
    ∀ l : List (Nat × Serial), (putEntry i v l).lookup j = if j = i then some v else l.lookup j
  | [] => by simp [putEntry, lookup_cons_if]
  | (k, w) :: rest => by
    unfold putEntry
    split
    · simp only [lookup_cons_if]
    · split
      · subst_vars
        simp only [lookup_cons_if]
        split <;> rfl
      · rw [lookup_cons_if, lookup_putEntry i j v rest, lookup_cons_if]
        by_cases h : j = k
        · have : j ≠ i := fun e => by simp_all
          simp [h, h ▸ this]
        · simp [h]

theorem lookup_dropEntry (i j : Nat) :
    ∀ l : List (Nat × Serial), (dropEntry i l).lookup j = if j = i then none else l.lookup j
  | [] => by simp [dropEntry]
  | (k, w) :: rest => by
    have ih := lookup_dropEntry i j rest
    unfold dropEntry at ih ⊢
    by_cases hk : k = i
    · subst hk
      rw [List.filter_cons_of_neg (by simp), ih, lookup_cons_if]
      split <;> rfl
    · rw [List.filter_cons_of_pos (by simp [hk]), lookup_cons_if, lookup_cons_if, ih]
      by_cases h : j = k
      · simp [h, hk]
      · simp [h]

/-- An entry reads as what was written to it. -/
theorem CaptureMap.read_write_same (m : CaptureMap) (i : Nat) (v : Serial) : (m.write i v).read i = v := by
  unfold CaptureMap.write
  split
  · rename_i h
    simp [CaptureMap.read, lookup_dropEntry, h.1, h.2]
  · simp [CaptureMap.read, lookup_putEntry]

/-- A write leaves every other entry. -/
theorem CaptureMap.read_write_other (m : CaptureMap) {i j : Nat} (h : j ≠ i) (v : Serial) :
    (m.write i v).read j = m.read j := by
  unfold CaptureMap.write
  split <;> simp [CaptureMap.read, lookup_dropEntry, lookup_putEntry, h]

/-- The sweep's clearing sets the entry to 0. -/
theorem CaptureMap.read_clear_same (m : CaptureMap) (i : Nat) : (m.clear i).read i = 0#16 := by
  unfold CaptureMap.clear
  split
  · simp [CaptureMap.read, lookup_dropEntry]
  · exact m.read_write_same i 0#16

/-- The sweep's clearing leaves every other entry. -/
theorem CaptureMap.read_clear_other (m : CaptureMap) {i j : Nat} (h : j ≠ i) : (m.clear i).read j = m.read j := by
  unfold CaptureMap.clear
  split
  · rename_i hi
    subst hi
    simp only [CaptureMap.read, lookup_dropEntry, h, if_false]
    have : j < m.knownBelow + 1 ↔ j < m.knownBelow := by omega
    simp [this]
  · exact m.read_write_other h 0#16

/-! ### The canonical form -/

theorem mem_putEntry {i : Nat} {v : Serial} {p : Nat × Serial} :
    ∀ {l : List (Nat × Serial)}, p ∈ putEntry i v l → p = (i, v) ∨ p ∈ l
  | [], h => by simpa [putEntry] using h
  | (k, w) :: rest, h => by
    unfold putEntry at h
    split at h
    · simpa using h
    · split at h
      · rcases List.mem_cons.1 h with h | h
        · exact .inl h
        · exact .inr (List.mem_cons_of_mem _ h)
      · rcases List.mem_cons.1 h with h | h
        · exact .inr (h ▸ List.mem_cons_self ..)
        · exact (mem_putEntry h).imp id (List.mem_cons_of_mem _)

theorem putEntry_rising (i : Nat) (v : Serial) :
    ∀ {l : List (Nat × Serial)}, (l.map Prod.fst).Pairwise (· < ·) → ((putEntry i v l).map Prod.fst).Pairwise (· < ·)
  | [], _ => by simp [putEntry]
  | (k, w) :: rest, h => by
    simp only [List.map_cons, List.pairwise_cons] at h
    unfold putEntry
    split
    · rename_i hik
      refine List.pairwise_cons.2 ⟨fun a ha => ?_, List.pairwise_cons.2 ⟨h.1, h.2⟩⟩
      rcases List.mem_cons.1 ha with rfl | ha
      · exact hik
      · exact hik.trans (h.1 a ha)
    · split
      · subst_vars
        exact List.pairwise_cons.2 ⟨h.1, h.2⟩
      · refine List.pairwise_cons.2 ⟨fun a ha => ?_, putEntry_rising i v h.2⟩
        obtain ⟨p, hp, rfl⟩ := List.mem_map.1 ha
        rcases mem_putEntry hp with rfl | hp
        · show k < i
          omega
        · exact h.1 _ (List.mem_map_of_mem (f := Prod.fst) hp)

theorem dropEntry_rising (i : Nat) {l : List (Nat × Serial)} (h : (l.map Prod.fst).Pairwise (· < ·)) :
    ((dropEntry i l).map Prod.fst).Pairwise (· < ·) :=
  h.sublist ((List.filter_sublist).map Prod.fst)

theorem CaptureMap.wf_iff {m : CaptureMap} :
    m.wf = true ↔ (m.written.map Prod.fst).Pairwise (· < ·) ∧ ∀ p ∈ m.written, p.2 ≠ 0#16 ∨ m.knownBelow ≤ p.1 := by
  simp [CaptureMap.wf]

/-- A write keeps the canonical form. -/
theorem CaptureMap.write_wf {m : CaptureMap} (h : m.wf = true) (i : Nat) (v : Serial) : (m.write i v).wf = true := by
  obtain ⟨hr, hz⟩ := wf_iff.1 h
  unfold CaptureMap.write
  split
  · exact wf_iff.2 ⟨dropEntry_rising i hr, fun p hp => hz p (List.mem_filter.1 hp).1⟩
  · rename_i hn
    refine wf_iff.2 ⟨putEntry_rising i v hr, fun p hp => ?_⟩
    rcases mem_putEntry hp with rfl | hp
    · by_cases hv : v = 0#16
      · exact .inr (Nat.not_lt.1 fun hi => hn ⟨hv, hi⟩)
      · exact .inl hv
    · exact hz p hp

/-- The sweep's clearing keeps the canonical form. -/
theorem CaptureMap.clear_wf {m : CaptureMap} (h : m.wf = true) (i : Nat) : (m.clear i).wf = true := by
  unfold CaptureMap.clear
  split
  · rename_i hi
    obtain ⟨hr, hz⟩ := wf_iff.1 h
    refine wf_iff.2 ⟨dropEntry_rising i hr, fun p hp => ?_⟩
    obtain ⟨hp, hne⟩ := List.mem_filter.1 hp
    have hne' : p.1 ≠ i := by simpa using hne
    refine (hz p hp).imp id fun hk => ?_
    show i + 1 ≤ p.1
    omega
  · exact write_wf h i 0#16

/-- The unknown map after power-up has the canonical form. -/
theorem CaptureMap.lost_wf (m : CaptureMap) : m.lost.wf = true := by simp [CaptureMap.wf, CaptureMap.lost]

/-- The map of the reset state has the canonical form. -/
theorem reset_map_wf : State.reset.cap.map.wf = true := rfl

end Sys2Proof.Machine
end

