-- ==== Sys2Proof/Laws/State.lean ====
section
/-! SUPPORT. What each small operation of the state leaves in each field: one lemma per field per operation, all true by
unfolding, so that no later proof unfolds a record update. -/

namespace Sys2Proof.Machine

variable (s : State)


/-! ### `State.postAt` -/

@[simp] theorem State.postAt_mode (b : EventBody) (q : Serial) (d : Nat) : (s.postAt b q d).mode = s.mode := rfl
@[simp] theorem State.postAt_win (b : EventBody) (q : Serial) (d : Nat) : (s.postAt b q d).win = s.win := rfl
@[simp] theorem State.postAt_up (b : EventBody) (q : Serial) (d : Nat) : (s.postAt b q d).up = s.up := rfl
@[simp] theorem State.postAt_cap (b : EventBody) (q : Serial) (d : Nat) : (s.postAt b q d).cap = s.cap := rfl
@[simp] theorem State.postAt_log (b : EventBody) (q : Serial) (d : Nat) : (s.postAt b q d).log = s.log := rfl
@[simp] theorem State.postAt_frames (b : EventBody) (q : Serial) (d : Nat) : (s.postAt b q d).frames = s.frames := rfl
@[simp] theorem State.postAt_engine (b : EventBody) (q : Serial) (d : Nat) : (s.postAt b q d).engine = s.engine := rfl
@[simp] theorem State.postAt_ctl (b : EventBody) (q : Serial) (d : Nat) : (s.postAt b q d).ctl = s.ctl := rfl
@[simp] theorem State.postAt_flt (b : EventBody) (q : Serial) (d : Nat) : (s.postAt b q d).flt = s.flt := rfl
@[simp] theorem State.postAt_down (b : EventBody) (q : Serial) (d : Nat) : (s.postAt b q d).down = s.down := rfl
@[simp] theorem State.postAt_link (b : EventBody) (q : Serial) (d : Nat) :
    (s.postAt b q d).link = s.link.post { body := b, stamp := s.flt.ticks, depth := d, serial := q } := rfl
@[simp] theorem State.postAt_rstN (b : EventBody) (q : Serial) (d : Nat) : (s.postAt b q d).rstN = s.rstN := rfl
@[simp] theorem State.postAt_obs (b : EventBody) (q : Serial) (d : Nat) : (s.postAt b q d).obs = s.obs := rfl
@[simp] theorem State.postAt_pending (b : EventBody) (q : Serial) (d : Nat) :
    (s.postAt b q d).pending = s.pending := rfl
@[simp] theorem State.postAt_wire (b : EventBody) (q : Serial) (d : Nat) : (s.postAt b q d).wire = s.wire := rfl

/-! ### `State.post` -/

@[simp] theorem State.post_mode (b : EventBody) (q : Serial) : (s.post b q).mode = s.mode := rfl
@[simp] theorem State.post_win (b : EventBody) (q : Serial) : (s.post b q).win = s.win := rfl
@[simp] theorem State.post_up (b : EventBody) (q : Serial) : (s.post b q).up = s.up := rfl
@[simp] theorem State.post_cap (b : EventBody) (q : Serial) : (s.post b q).cap = s.cap := rfl
@[simp] theorem State.post_log (b : EventBody) (q : Serial) : (s.post b q).log = s.log := rfl
@[simp] theorem State.post_frames (b : EventBody) (q : Serial) : (s.post b q).frames = s.frames := rfl
@[simp] theorem State.post_engine (b : EventBody) (q : Serial) : (s.post b q).engine = s.engine := rfl
@[simp] theorem State.post_ctl (b : EventBody) (q : Serial) : (s.post b q).ctl = s.ctl := rfl
@[simp] theorem State.post_flt (b : EventBody) (q : Serial) : (s.post b q).flt = s.flt := rfl
@[simp] theorem State.post_down (b : EventBody) (q : Serial) : (s.post b q).down = s.down := rfl
@[simp] theorem State.post_link (b : EventBody) (q : Serial) :
    (s.post b q).link = s.link.post { body := b, stamp := s.flt.ticks, depth := s.depth, serial := q } := rfl
@[simp] theorem State.post_rstN (b : EventBody) (q : Serial) : (s.post b q).rstN = s.rstN := rfl
@[simp] theorem State.post_obs (b : EventBody) (q : Serial) : (s.post b q).obs = s.obs := rfl
@[simp] theorem State.post_pending (b : EventBody) (q : Serial) : (s.post b q).pending = s.pending := rfl
@[simp] theorem State.post_wire (b : EventBody) (q : Serial) : (s.post b q).wire = s.wire := rfl

/-! ### `State.stopHold` -/

@[simp] theorem State.stopHold_mode : (s.stopHold).mode = s.mode := rfl
@[simp] theorem State.stopHold_win : (s.stopHold).win = s.win := rfl
@[simp] theorem State.stopHold_up : (s.stopHold).up = s.up := rfl
@[simp] theorem State.stopHold_cap : (s.stopHold).cap = s.cap := rfl
@[simp] theorem State.stopHold_log : (s.stopHold).log = { s.log with hold := timerStopped } := rfl
@[simp] theorem State.stopHold_frames : (s.stopHold).frames = s.frames := rfl
@[simp] theorem State.stopHold_engine : (s.stopHold).engine = s.engine := rfl
@[simp] theorem State.stopHold_ctl : (s.stopHold).ctl = s.ctl := rfl
@[simp] theorem State.stopHold_flt : (s.stopHold).flt = s.flt := rfl
@[simp] theorem State.stopHold_down : (s.stopHold).down = s.down := rfl
@[simp] theorem State.stopHold_link : (s.stopHold).link = s.link := rfl
@[simp] theorem State.stopHold_rstN : (s.stopHold).rstN = s.rstN := rfl
@[simp] theorem State.stopHold_obs : (s.stopHold).obs = s.obs := rfl
@[simp] theorem State.stopHold_pending : (s.stopHold).pending = s.pending := rfl
@[simp] theorem State.stopHold_wire : (s.stopHold).wire = s.wire := rfl

/-! ### `State.startHold` -/

@[simp] theorem State.startHold_mode : (s.startHold).mode = s.mode := rfl
@[simp] theorem State.startHold_win : (s.startHold).win = s.win := rfl
@[simp] theorem State.startHold_up : (s.startHold).up = s.up := rfl
@[simp] theorem State.startHold_cap : (s.startHold).cap = s.cap := rfl
@[simp] theorem State.startHold_log :
    (s.startHold).log = { s.log with hold := if s.log.hold.running then s.log.hold else { running := true, value := 0 } } := rfl
@[simp] theorem State.startHold_frames : (s.startHold).frames = s.frames := rfl
@[simp] theorem State.startHold_engine : (s.startHold).engine = s.engine := rfl
@[simp] theorem State.startHold_ctl : (s.startHold).ctl = s.ctl := rfl
@[simp] theorem State.startHold_flt : (s.startHold).flt = s.flt := rfl
@[simp] theorem State.startHold_down : (s.startHold).down = s.down := rfl
@[simp] theorem State.startHold_link : (s.startHold).link = s.link := rfl
@[simp] theorem State.startHold_rstN : (s.startHold).rstN = s.rstN := rfl
@[simp] theorem State.startHold_obs : (s.startHold).obs = s.obs := rfl
@[simp] theorem State.startHold_pending : (s.startHold).pending = s.pending := rfl
@[simp] theorem State.startHold_wire : (s.startHold).wire = s.wire := rfl

/-! ### `State.loadDeadline` -/

@[simp] theorem State.loadDeadline_mode : (s.loadDeadline).mode = s.mode := rfl
@[simp] theorem State.loadDeadline_win : (s.loadDeadline).win = s.win := rfl
@[simp] theorem State.loadDeadline_up : (s.loadDeadline).up = s.up := rfl
@[simp] theorem State.loadDeadline_cap : (s.loadDeadline).cap = s.cap := rfl
@[simp] theorem State.loadDeadline_log : (s.loadDeadline).log = s.log := rfl
@[simp] theorem State.loadDeadline_frames : (s.loadDeadline).frames = s.frames := rfl
@[simp] theorem State.loadDeadline_engine : (s.loadDeadline).engine = s.engine := rfl
@[simp] theorem State.loadDeadline_ctl : (s.loadDeadline).ctl = s.ctl := rfl
@[simp] theorem State.loadDeadline_flt :
    (s.loadDeadline).flt = { s.flt with deadline := { running := decide (1 ≤ s.flt.deadlineIn), value := s.flt.deadlineIn } } := rfl
@[simp] theorem State.loadDeadline_down : (s.loadDeadline).down = s.down := rfl
@[simp] theorem State.loadDeadline_link : (s.loadDeadline).link = s.link := rfl
@[simp] theorem State.loadDeadline_rstN : (s.loadDeadline).rstN = s.rstN := rfl
@[simp] theorem State.loadDeadline_obs : (s.loadDeadline).obs = s.obs := rfl
@[simp] theorem State.loadDeadline_pending : (s.loadDeadline).pending = s.pending := rfl
@[simp] theorem State.loadDeadline_wire : (s.loadDeadline).wire = s.wire := rfl

/-! ### `State.stopDeadline` -/

@[simp] theorem State.stopDeadline_mode : (s.stopDeadline).mode = s.mode := rfl
@[simp] theorem State.stopDeadline_win : (s.stopDeadline).win = s.win := rfl
@[simp] theorem State.stopDeadline_up : (s.stopDeadline).up = s.up := rfl
@[simp] theorem State.stopDeadline_cap : (s.stopDeadline).cap = s.cap := rfl
@[simp] theorem State.stopDeadline_log : (s.stopDeadline).log = s.log := rfl
@[simp] theorem State.stopDeadline_frames : (s.stopDeadline).frames = s.frames := rfl
@[simp] theorem State.stopDeadline_engine : (s.stopDeadline).engine = s.engine := rfl
@[simp] theorem State.stopDeadline_ctl : (s.stopDeadline).ctl = s.ctl := rfl
@[simp] theorem State.stopDeadline_flt :
    (s.stopDeadline).flt = { s.flt with deadline := { s.flt.deadline with running := false } } := rfl
@[simp] theorem State.stopDeadline_down : (s.stopDeadline).down = s.down := rfl
@[simp] theorem State.stopDeadline_link : (s.stopDeadline).link = s.link := rfl
@[simp] theorem State.stopDeadline_rstN : (s.stopDeadline).rstN = s.rstN := rfl
@[simp] theorem State.stopDeadline_obs : (s.stopDeadline).obs = s.obs := rfl
@[simp] theorem State.stopDeadline_pending : (s.stopDeadline).pending = s.pending := rfl
@[simp] theorem State.stopDeadline_wire : (s.stopDeadline).wire = s.wire := rfl

/-! ### `State.startSweep` -/

@[simp] theorem State.startSweep_mode : (s.startSweep).mode = s.mode := rfl
@[simp] theorem State.startSweep_win : (s.startSweep).win = s.win := rfl
@[simp] theorem State.startSweep_up : (s.startSweep).up = s.up := rfl
@[simp] theorem State.startSweep_cap :
    (s.startSweep).cap = { s.cap with sweep := { inFlight := true, position := 0 } } := rfl
@[simp] theorem State.startSweep_log : (s.startSweep).log = s.log := rfl
@[simp] theorem State.startSweep_frames : (s.startSweep).frames = s.frames := rfl
@[simp] theorem State.startSweep_engine : (s.startSweep).engine = s.engine := rfl
@[simp] theorem State.startSweep_ctl : (s.startSweep).ctl = s.ctl := rfl
@[simp] theorem State.startSweep_flt : (s.startSweep).flt = s.flt := rfl
@[simp] theorem State.startSweep_down : (s.startSweep).down = s.down := rfl
@[simp] theorem State.startSweep_link : (s.startSweep).link = s.link := rfl
@[simp] theorem State.startSweep_rstN : (s.startSweep).rstN = s.rstN := rfl
@[simp] theorem State.startSweep_obs : (s.startSweep).obs = s.obs := rfl
@[simp] theorem State.startSweep_pending : (s.startSweep).pending = s.pending := rfl
@[simp] theorem State.startSweep_wire : (s.startSweep).wire = s.wire := rfl

/-! ### `State.answer` -/

@[simp] theorem State.answer_mode (a : CtlAnswer) : (s.answer a).mode = s.mode := rfl
@[simp] theorem State.answer_win (a : CtlAnswer) : (s.answer a).win = s.win := rfl
@[simp] theorem State.answer_up (a : CtlAnswer) : (s.answer a).up = s.up := rfl
@[simp] theorem State.answer_cap (a : CtlAnswer) : (s.answer a).cap = s.cap := rfl
@[simp] theorem State.answer_log (a : CtlAnswer) : (s.answer a).log = s.log := rfl
@[simp] theorem State.answer_frames (a : CtlAnswer) : (s.answer a).frames = s.frames := rfl
@[simp] theorem State.answer_engine (a : CtlAnswer) : (s.answer a).engine = s.engine := rfl
@[simp] theorem State.answer_ctl (a : CtlAnswer) : (s.answer a).ctl = s.ctl.answer a := rfl
@[simp] theorem State.answer_flt (a : CtlAnswer) : (s.answer a).flt = s.flt := rfl
@[simp] theorem State.answer_down (a : CtlAnswer) : (s.answer a).down = s.down := rfl
@[simp] theorem State.answer_link (a : CtlAnswer) : (s.answer a).link = s.link := rfl
@[simp] theorem State.answer_rstN (a : CtlAnswer) : (s.answer a).rstN = s.rstN := rfl
@[simp] theorem State.answer_obs (a : CtlAnswer) : (s.answer a).obs = s.obs := rfl
@[simp] theorem State.answer_pending (a : CtlAnswer) : (s.answer a).pending = s.pending := rfl
@[simp] theorem State.answer_wire (a : CtlAnswer) : (s.answer a).wire = s.wire := rfl

/-! ### `State.setStage` -/

@[simp] theorem State.setStage_mode (t : Tag) (st : Stage) : (s.setStage t st).mode = s.mode := rfl
@[simp] theorem State.setStage_win (t : Tag) (st : Stage) : (s.setStage t st).win = s.win := rfl
@[simp] theorem State.setStage_up (t : Tag) (st : Stage) : (s.setStage t st).up = s.up.setStage t st := rfl
@[simp] theorem State.setStage_cap (t : Tag) (st : Stage) : (s.setStage t st).cap = s.cap := rfl
@[simp] theorem State.setStage_log (t : Tag) (st : Stage) : (s.setStage t st).log = s.log := rfl
@[simp] theorem State.setStage_frames (t : Tag) (st : Stage) : (s.setStage t st).frames = s.frames := rfl
@[simp] theorem State.setStage_engine (t : Tag) (st : Stage) : (s.setStage t st).engine = s.engine := rfl
@[simp] theorem State.setStage_ctl (t : Tag) (st : Stage) : (s.setStage t st).ctl = s.ctl := rfl
@[simp] theorem State.setStage_flt (t : Tag) (st : Stage) : (s.setStage t st).flt = s.flt := rfl
@[simp] theorem State.setStage_down (t : Tag) (st : Stage) : (s.setStage t st).down = s.down := rfl
@[simp] theorem State.setStage_link (t : Tag) (st : Stage) : (s.setStage t st).link = s.link := rfl
@[simp] theorem State.setStage_rstN (t : Tag) (st : Stage) : (s.setStage t st).rstN = s.rstN := rfl
@[simp] theorem State.setStage_obs (t : Tag) (st : Stage) : (s.setStage t st).obs = s.obs := rfl
@[simp] theorem State.setStage_pending (t : Tag) (st : Stage) : (s.setStage t st).pending = s.pending := rfl
@[simp] theorem State.setStage_wire (t : Tag) (st : Stage) : (s.setStage t st).wire = s.wire := rfl

/-! ### `State.respond` -/

@[simp] theorem State.respond_mode (t : Tag) (c : UpCode) (d : List Beat) : (s.respond t c d).mode = s.mode := rfl
@[simp] theorem State.respond_win (t : Tag) (c : UpCode) (d : List Beat) : (s.respond t c d).win = s.win := rfl
@[simp] theorem State.respond_up (t : Tag) (c : UpCode) (d : List Beat) : (s.respond t c d).up = s.up := rfl
@[simp] theorem State.respond_cap (t : Tag) (c : UpCode) (d : List Beat) : (s.respond t c d).cap = s.cap := rfl
@[simp] theorem State.respond_log (t : Tag) (c : UpCode) (d : List Beat) : (s.respond t c d).log = s.log := rfl
@[simp] theorem State.respond_frames (t : Tag) (c : UpCode) (d : List Beat) : (s.respond t c d).frames = s.frames := rfl
@[simp] theorem State.respond_engine (t : Tag) (c : UpCode) (d : List Beat) : (s.respond t c d).engine = s.engine := rfl
@[simp] theorem State.respond_ctl (t : Tag) (c : UpCode) (d : List Beat) : (s.respond t c d).ctl = s.ctl := rfl
@[simp] theorem State.respond_flt (t : Tag) (c : UpCode) (d : List Beat) : (s.respond t c d).flt = s.flt := rfl
@[simp] theorem State.respond_down (t : Tag) (c : UpCode) (d : List Beat) : (s.respond t c d).down = s.down := rfl
@[simp] theorem State.respond_link (t : Tag) (c : UpCode) (d : List Beat) : (s.respond t c d).link = s.link := rfl
@[simp] theorem State.respond_rstN (t : Tag) (c : UpCode) (d : List Beat) : (s.respond t c d).rstN = s.rstN := rfl
@[simp] theorem State.respond_obs (t : Tag) (c : UpCode) (d : List Beat) :
    (s.respond t c d).obs = { s.obs with responses := s.obs.responses ++ [{ tag := t, code := c, data := d }] } := rfl
@[simp] theorem State.respond_pending (t : Tag) (c : UpCode) (d : List Beat) :
    (s.respond t c d).pending = s.pending := rfl
@[simp] theorem State.respond_wire (t : Tag) (c : UpCode) (d : List Beat) : (s.respond t c d).wire = s.wire := rfl

/-! ### `State.finish` -/

@[simp] theorem State.finish_mode (t : Tag) (c : UpCode) (d : List Beat) : (s.finish t c d).mode = s.mode := rfl
@[simp] theorem State.finish_win (t : Tag) (c : UpCode) (d : List Beat) : (s.finish t c d).win = s.win := rfl
@[simp] theorem State.finish_up (t : Tag) (c : UpCode) (d : List Beat) :
    (s.finish t c d).up = { s.up with txns := s.up.txns.filter (·.tag != t) } := rfl
@[simp] theorem State.finish_cap (t : Tag) (c : UpCode) (d : List Beat) :
    (s.finish t c d).cap = { s.cap with waitList := s.cap.waitList.filter (· != t), slots := s.cap.slots.map (Option.map (CaptureSlot.drop t)) } := rfl
@[simp] theorem State.finish_log (t : Tag) (c : UpCode) (d : List Beat) : (s.finish t c d).log = s.log := rfl
@[simp] theorem State.finish_frames (t : Tag) (c : UpCode) (d : List Beat) :
    (s.finish t c d).frames = { s.frames with barrier := s.frames.barrier.map (·.filter (· != t)) } := rfl
@[simp] theorem State.finish_engine (t : Tag) (c : UpCode) (d : List Beat) :
    (s.finish t c d).engine = { s.engine with quiesce := s.engine.quiesce.filter (· != t) } := rfl
@[simp] theorem State.finish_ctl (t : Tag) (c : UpCode) (d : List Beat) : (s.finish t c d).ctl = s.ctl := rfl
@[simp] theorem State.finish_flt (t : Tag) (c : UpCode) (d : List Beat) : (s.finish t c d).flt = s.flt := rfl
@[simp] theorem State.finish_down (t : Tag) (c : UpCode) (d : List Beat) : (s.finish t c d).down = s.down := rfl
@[simp] theorem State.finish_link (t : Tag) (c : UpCode) (d : List Beat) : (s.finish t c d).link = s.link := rfl
@[simp] theorem State.finish_rstN (t : Tag) (c : UpCode) (d : List Beat) : (s.finish t c d).rstN = s.rstN := rfl
@[simp] theorem State.finish_obs (t : Tag) (c : UpCode) (d : List Beat) :
    (s.finish t c d).obs = { s.obs with responses := s.obs.responses ++ [{ tag := t, code := c, data := d }] } := rfl
@[simp] theorem State.finish_pending (t : Tag) (c : UpCode) (d : List Beat) :
    (s.finish t c d).pending = s.pending := rfl
@[simp] theorem State.finish_wire (t : Tag) (c : UpCode) (d : List Beat) : (s.finish t c d).wire = s.wire := rfl

/-! ### `State.handOver` -/

@[simp] theorem State.handOver_mode (w : Waiting) : (s.handOver w).mode = s.mode := rfl
@[simp] theorem State.handOver_win (w : Waiting) : (s.handOver w).win = s.win := rfl
@[simp] theorem State.handOver_up (w : Waiting) : (s.handOver w).up = s.up := rfl
@[simp] theorem State.handOver_cap (w : Waiting) : (s.handOver w).cap = s.cap := rfl
@[simp] theorem State.handOver_log (w : Waiting) : (s.handOver w).log = s.log := rfl
@[simp] theorem State.handOver_frames (w : Waiting) : (s.handOver w).frames = s.frames := rfl
@[simp] theorem State.handOver_engine (w : Waiting) : (s.handOver w).engine = s.engine := rfl
@[simp] theorem State.handOver_ctl (w : Waiting) : (s.handOver w).ctl = s.ctl := rfl
@[simp] theorem State.handOver_flt (w : Waiting) : (s.handOver w).flt = s.flt := rfl
@[simp] theorem State.handOver_down (w : Waiting) :
    (s.handOver w).down = { s.down with waiting := s.down.waiting ++ [w] } := rfl
@[simp] theorem State.handOver_link (w : Waiting) : (s.handOver w).link = s.link := rfl
@[simp] theorem State.handOver_rstN (w : Waiting) : (s.handOver w).rstN = s.rstN := rfl
@[simp] theorem State.handOver_obs (w : Waiting) : (s.handOver w).obs = s.obs := rfl
@[simp] theorem State.handOver_pending (w : Waiting) : (s.handOver w).pending = s.pending := rfl
@[simp] theorem State.handOver_wire (w : Waiting) : (s.handOver w).wire = s.wire := rfl

/-! ### `State.issue` -/

@[simp] theorem State.issue_mode (e : Txn) : (s.issue e).mode = s.mode := rfl
@[simp] theorem State.issue_win (e : Txn) : (s.issue e).win = s.win := rfl
@[simp] theorem State.issue_up (e : Txn) : (s.issue e).up = s.up.setStage e.tag .issued := rfl
@[simp] theorem State.issue_cap (e : Txn) : (s.issue e).cap = s.cap := rfl
@[simp] theorem State.issue_log (e : Txn) : (s.issue e).log = s.log := rfl
@[simp] theorem State.issue_frames (e : Txn) :
    (s.issue e).frames = { s.frames with barrier := s.frames.barrier.map (·.filter (· != e.tag)) } := rfl
@[simp] theorem State.issue_engine (e : Txn) : (s.issue e).engine = s.engine := rfl
@[simp] theorem State.issue_ctl (e : Txn) : (s.issue e).ctl = s.ctl := rfl
@[simp] theorem State.issue_flt (e : Txn) : (s.issue e).flt = s.flt := rfl
@[simp] theorem State.issue_down (e : Txn) :
    (s.issue e).down = { s.down with waiting := s.down.waiting ++ [{ origin := .txn e.tag, dir := e.dir, addr := e.addr, length := e.length, beats := [] }] } := rfl
@[simp] theorem State.issue_link (e : Txn) : (s.issue e).link = s.link := rfl
@[simp] theorem State.issue_rstN (e : Txn) : (s.issue e).rstN = s.rstN := rfl
@[simp] theorem State.issue_obs (e : Txn) : (s.issue e).obs = s.obs := rfl
@[simp] theorem State.issue_pending (e : Txn) : (s.issue e).pending = s.pending := rfl
@[simp] theorem State.issue_wire (e : Txn) : (s.issue e).wire = s.wire := rfl

/-! ### `State.beginBarrier` -/

@[simp] theorem State.beginBarrier_mode : (s.beginBarrier).mode = s.mode := rfl
@[simp] theorem State.beginBarrier_win : (s.beginBarrier).win = s.win := rfl
@[simp] theorem State.beginBarrier_up : (s.beginBarrier).up = s.up := rfl
@[simp] theorem State.beginBarrier_cap : (s.beginBarrier).cap = s.cap := rfl
@[simp] theorem State.beginBarrier_log : (s.beginBarrier).log = s.log := rfl
@[simp] theorem State.beginBarrier_frames :
    (s.beginBarrier).frames = { s.frames with barrier := some ((s.up.txns.filter Txn.undecided).map Txn.tag) } := rfl
@[simp] theorem State.beginBarrier_engine : (s.beginBarrier).engine = s.engine := rfl
@[simp] theorem State.beginBarrier_ctl : (s.beginBarrier).ctl = s.ctl := rfl
@[simp] theorem State.beginBarrier_flt : (s.beginBarrier).flt = s.flt := rfl
@[simp] theorem State.beginBarrier_down : (s.beginBarrier).down = s.down := rfl
@[simp] theorem State.beginBarrier_link : (s.beginBarrier).link = s.link := rfl
@[simp] theorem State.beginBarrier_rstN : (s.beginBarrier).rstN = s.rstN := rfl
@[simp] theorem State.beginBarrier_obs : (s.beginBarrier).obs = s.obs := rfl
@[simp] theorem State.beginBarrier_pending : (s.beginBarrier).pending = s.pending := rfl
@[simp] theorem State.beginBarrier_wire : (s.beginBarrier).wire = s.wire := rfl

/-! ### `State.joinWaitList` -/

@[simp] theorem State.joinWaitList_mode (e : Txn) : (s.joinWaitList e).mode = s.mode := rfl
@[simp] theorem State.joinWaitList_win (e : Txn) : (s.joinWaitList e).win = s.win := rfl
@[simp] theorem State.joinWaitList_up (e : Txn) : (s.joinWaitList e).up = s.up.setStage e.tag .capture := rfl
@[simp] theorem State.joinWaitList_cap (e : Txn) :
    (s.joinWaitList e).cap = { s.cap with waitList := insertByAge s.ageOf e.tag s.cap.waitList } := rfl
@[simp] theorem State.joinWaitList_log (e : Txn) : (s.joinWaitList e).log = s.log := rfl
@[simp] theorem State.joinWaitList_frames (e : Txn) : (s.joinWaitList e).frames = s.frames := rfl
@[simp] theorem State.joinWaitList_engine (e : Txn) : (s.joinWaitList e).engine = s.engine := rfl
@[simp] theorem State.joinWaitList_ctl (e : Txn) : (s.joinWaitList e).ctl = s.ctl := rfl
@[simp] theorem State.joinWaitList_flt (e : Txn) : (s.joinWaitList e).flt = s.flt := rfl
@[simp] theorem State.joinWaitList_down (e : Txn) : (s.joinWaitList e).down = s.down := rfl
@[simp] theorem State.joinWaitList_link (e : Txn) : (s.joinWaitList e).link = s.link := rfl
@[simp] theorem State.joinWaitList_rstN (e : Txn) : (s.joinWaitList e).rstN = s.rstN := rfl
@[simp] theorem State.joinWaitList_obs (e : Txn) : (s.joinWaitList e).obs = s.obs := rfl
@[simp] theorem State.joinWaitList_pending (e : Txn) : (s.joinWaitList e).pending = s.pending := rfl
@[simp] theorem State.joinWaitList_wire (e : Txn) : (s.joinWaitList e).wire = s.wire := rfl

/-! ### `State.beginAttempt` -/

@[simp] theorem State.beginAttempt_mode (e : StagingEntry) (a : Attempt) : (s.beginAttempt e a).mode = s.mode := rfl
@[simp] theorem State.beginAttempt_win (e : StagingEntry) (a : Attempt) : (s.beginAttempt e a).win = s.win := rfl
@[simp] theorem State.beginAttempt_up (e : StagingEntry) (a : Attempt) : (s.beginAttempt e a).up = s.up := rfl
@[simp] theorem State.beginAttempt_cap (e : StagingEntry) (a : Attempt) : (s.beginAttempt e a).cap = s.cap := rfl
@[simp] theorem State.beginAttempt_log (e : StagingEntry) (a : Attempt) :
    (s.beginAttempt e a).log = { s.log with writer := some { seq := e.seq, attempt := a, orphaned := false, answers := 0, anyErr := false } } := rfl
@[simp] theorem State.beginAttempt_frames (e : StagingEntry) (a : Attempt) :
    (s.beginAttempt e a).frames = s.frames := rfl
@[simp] theorem State.beginAttempt_engine (e : StagingEntry) (a : Attempt) :
    (s.beginAttempt e a).engine = s.engine := rfl
@[simp] theorem State.beginAttempt_ctl (e : StagingEntry) (a : Attempt) : (s.beginAttempt e a).ctl = s.ctl := rfl
@[simp] theorem State.beginAttempt_flt (e : StagingEntry) (a : Attempt) : (s.beginAttempt e a).flt = s.flt := rfl
@[simp] theorem State.beginAttempt_link (e : StagingEntry) (a : Attempt) : (s.beginAttempt e a).link = s.link := rfl
@[simp] theorem State.beginAttempt_rstN (e : StagingEntry) (a : Attempt) : (s.beginAttempt e a).rstN = s.rstN := rfl
@[simp] theorem State.beginAttempt_obs (e : StagingEntry) (a : Attempt) : (s.beginAttempt e a).obs = s.obs := rfl
@[simp] theorem State.beginAttempt_pending (e : StagingEntry) (a : Attempt) :
    (s.beginAttempt e a).pending = s.pending := rfl
@[simp] theorem State.beginAttempt_wire (e : StagingEntry) (a : Attempt) : (s.beginAttempt e a).wire = s.wire := rfl

/-! ### `State.endQuiesce` -/

@[simp] theorem State.endQuiesce_mode : (s.endQuiesce).mode = s.mode := rfl
@[simp] theorem State.endQuiesce_win : (s.endQuiesce).win = s.win := rfl
@[simp] theorem State.endQuiesce_up : (s.endQuiesce).up = s.up := rfl
@[simp] theorem State.endQuiesce_cap : (s.endQuiesce).cap = s.cap := rfl
@[simp] theorem State.endQuiesce_log : (s.endQuiesce).log = s.log := rfl
@[simp] theorem State.endQuiesce_frames : (s.endQuiesce).frames = s.frames := rfl
@[simp] theorem State.endQuiesce_engine : (s.endQuiesce).engine = { s.engine with phase := .unwind } := rfl
@[simp] theorem State.endQuiesce_ctl : (s.endQuiesce).ctl = s.ctl := rfl
@[simp] theorem State.endQuiesce_flt : (s.endQuiesce).flt = s.flt := rfl
@[simp] theorem State.endQuiesce_down : (s.endQuiesce).down = s.down := rfl
@[simp] theorem State.endQuiesce_link : (s.endQuiesce).link = s.link := rfl
@[simp] theorem State.endQuiesce_rstN : (s.endQuiesce).rstN = s.rstN := rfl
@[simp] theorem State.endQuiesce_obs : (s.endQuiesce).obs = s.obs := rfl
@[simp] theorem State.endQuiesce_pending : (s.endQuiesce).pending = s.pending := rfl
@[simp] theorem State.endQuiesce_wire : (s.endQuiesce).wire = s.wire := rfl

/-! ### `State.handWriteBack` -/

@[simp] theorem State.handWriteBack_mode (l : Addr) (d : LineData) : (s.handWriteBack l d).mode = s.mode := rfl
@[simp] theorem State.handWriteBack_win (l : Addr) (d : LineData) : (s.handWriteBack l d).win = s.win := rfl
@[simp] theorem State.handWriteBack_up (l : Addr) (d : LineData) : (s.handWriteBack l d).up = s.up := rfl
@[simp] theorem State.handWriteBack_cap (l : Addr) (d : LineData) : (s.handWriteBack l d).cap = s.cap := rfl
@[simp] theorem State.handWriteBack_log (l : Addr) (d : LineData) : (s.handWriteBack l d).log = s.log := rfl
@[simp] theorem State.handWriteBack_frames (l : Addr) (d : LineData) : (s.handWriteBack l d).frames = s.frames := rfl
@[simp] theorem State.handWriteBack_engine (l : Addr) (d : LineData) : (s.handWriteBack l d).engine = s.engine := rfl
@[simp] theorem State.handWriteBack_ctl (l : Addr) (d : LineData) : (s.handWriteBack l d).ctl = s.ctl := rfl
@[simp] theorem State.handWriteBack_flt (l : Addr) (d : LineData) : (s.handWriteBack l d).flt = s.flt := rfl
@[simp] theorem State.handWriteBack_down (l : Addr) (d : LineData) :
    (s.handWriteBack l d).down = { s.down with waiting := s.down.waiting ++ [{ origin := .writeBack, dir := .write, addr := l, length := 8, beats := lineBeats d }] } := rfl
@[simp] theorem State.handWriteBack_link (l : Addr) (d : LineData) : (s.handWriteBack l d).link = s.link := rfl
@[simp] theorem State.handWriteBack_rstN (l : Addr) (d : LineData) : (s.handWriteBack l d).rstN = s.rstN := rfl
@[simp] theorem State.handWriteBack_obs (l : Addr) (d : LineData) : (s.handWriteBack l d).obs = s.obs := rfl
@[simp] theorem State.handWriteBack_pending (l : Addr) (d : LineData) : (s.handWriteBack l d).pending = s.pending := rfl
@[simp] theorem State.handWriteBack_wire (l : Addr) (d : LineData) : (s.handWriteBack l d).wire = s.wire := rfl

/-! ### `State.endStep` -/

@[simp] theorem State.endStep_mode : (s.endStep).mode = s.mode := rfl
@[simp] theorem State.endStep_win : (s.endStep).win = s.win := rfl
@[simp] theorem State.endStep_up : (s.endStep).up = s.up := rfl
@[simp] theorem State.endStep_cap : (s.endStep).cap = s.cap := rfl
@[simp] theorem State.endStep_log : (s.endStep).log = { s.log with head := s.log.head - 1#32 } := rfl
@[simp] theorem State.endStep_frames : (s.endStep).frames = s.frames := rfl
@[simp] theorem State.endStep_engine : (s.endStep).engine = { s.engine with hand := none } := rfl
@[simp] theorem State.endStep_ctl : (s.endStep).ctl = s.ctl := rfl
@[simp] theorem State.endStep_flt : (s.endStep).flt = s.flt := rfl
@[simp] theorem State.endStep_down : (s.endStep).down = s.down := rfl
@[simp] theorem State.endStep_link : (s.endStep).link = s.link := rfl
@[simp] theorem State.endStep_rstN : (s.endStep).rstN = s.rstN := rfl
@[simp] theorem State.endStep_obs : (s.endStep).obs = s.obs := rfl
@[simp] theorem State.endStep_pending : (s.endStep).pending = s.pending := rfl
@[simp] theorem State.endStep_wire : (s.endStep).wire = s.wire := rfl

/-! ### `State.grantDown` -/

@[simp] theorem State.grantDown_mode (w : Waiting) (i : Nat) : (s.grantDown w i).mode = s.mode := rfl
@[simp] theorem State.grantDown_win (w : Waiting) (i : Nat) : (s.grantDown w i).win = s.win := rfl
@[simp] theorem State.grantDown_up (w : Waiting) (i : Nat) : (s.grantDown w i).up = s.up.dataTaken w.origin := rfl
@[simp] theorem State.grantDown_cap (w : Waiting) (i : Nat) : (s.grantDown w i).cap = s.cap := rfl
@[simp] theorem State.grantDown_log (w : Waiting) (i : Nat) : (s.grantDown w i).log = s.log := rfl
@[simp] theorem State.grantDown_frames (w : Waiting) (i : Nat) : (s.grantDown w i).frames = s.frames := rfl
@[simp] theorem State.grantDown_engine (w : Waiting) (i : Nat) : (s.grantDown w i).engine = s.engine := rfl
@[simp] theorem State.grantDown_ctl (w : Waiting) (i : Nat) : (s.grantDown w i).ctl = s.ctl := rfl
@[simp] theorem State.grantDown_flt (w : Waiting) (i : Nat) : (s.grantDown w i).flt = s.flt := rfl
@[simp] theorem State.grantDown_down (w : Waiting) (i : Nat) :
    (s.grantDown w i).down = { slots := s.down.slots.set i (.outstanding w.origin w.line false), waiting := s.down.waiting.erase w } := rfl
@[simp] theorem State.grantDown_link (w : Waiting) (i : Nat) : (s.grantDown w i).link = s.link := rfl
@[simp] theorem State.grantDown_rstN (w : Waiting) (i : Nat) : (s.grantDown w i).rstN = s.rstN := rfl
@[simp] theorem State.grantDown_pending (w : Waiting) (i : Nat) : (s.grantDown w i).pending = s.pending := rfl
@[simp] theorem State.grantDown_wire (w : Waiting) (i : Nat) : (s.grantDown w i).wire = s.wire := rfl

/-! ### `State.freeDownSlot` -/

@[simp] theorem State.freeDownSlot_mode (t : DTag) : (s.freeDownSlot t).mode = s.mode := rfl
@[simp] theorem State.freeDownSlot_win (t : DTag) : (s.freeDownSlot t).win = s.win := rfl
@[simp] theorem State.freeDownSlot_up (t : DTag) : (s.freeDownSlot t).up = s.up := rfl
@[simp] theorem State.freeDownSlot_cap (t : DTag) : (s.freeDownSlot t).cap = s.cap := rfl
@[simp] theorem State.freeDownSlot_log (t : DTag) : (s.freeDownSlot t).log = s.log := rfl
@[simp] theorem State.freeDownSlot_frames (t : DTag) : (s.freeDownSlot t).frames = s.frames := rfl
@[simp] theorem State.freeDownSlot_engine (t : DTag) : (s.freeDownSlot t).engine = s.engine := rfl
@[simp] theorem State.freeDownSlot_ctl (t : DTag) : (s.freeDownSlot t).ctl = s.ctl := rfl
@[simp] theorem State.freeDownSlot_flt (t : DTag) : (s.freeDownSlot t).flt = s.flt := rfl
@[simp] theorem State.freeDownSlot_down (t : DTag) :
    (s.freeDownSlot t).down = { s.down with slots := s.down.slots.set t.toNat .free } := rfl
@[simp] theorem State.freeDownSlot_link (t : DTag) : (s.freeDownSlot t).link = s.link := rfl
@[simp] theorem State.freeDownSlot_rstN (t : DTag) : (s.freeDownSlot t).rstN = s.rstN := rfl
@[simp] theorem State.freeDownSlot_obs (t : DTag) : (s.freeDownSlot t).obs = s.obs := rfl
@[simp] theorem State.freeDownSlot_pending (t : DTag) : (s.freeDownSlot t).pending = s.pending := rfl
@[simp] theorem State.freeDownSlot_wire (t : DTag) : (s.freeDownSlot t).wire = s.wire := rfl

/-! ### `State.raiseCreq` -/

@[simp] theorem State.raiseCreq_mode : (s.raiseCreq).mode = s.mode := rfl
@[simp] theorem State.raiseCreq_win : (s.raiseCreq).win = s.win := rfl
@[simp] theorem State.raiseCreq_up : (s.raiseCreq).up = s.up := rfl
@[simp] theorem State.raiseCreq_cap : (s.raiseCreq).cap = s.cap := rfl
@[simp] theorem State.raiseCreq_log : (s.raiseCreq).log = s.log := rfl
@[simp] theorem State.raiseCreq_frames : (s.raiseCreq).frames = s.frames := rfl
@[simp] theorem State.raiseCreq_engine : (s.raiseCreq).engine = s.engine := rfl
@[simp] theorem State.raiseCreq_ctl : (s.raiseCreq).ctl = { s.ctl with creq := true } := rfl
@[simp] theorem State.raiseCreq_flt : (s.raiseCreq).flt = s.flt := rfl
@[simp] theorem State.raiseCreq_down : (s.raiseCreq).down = s.down := rfl
@[simp] theorem State.raiseCreq_link : (s.raiseCreq).link = s.link := rfl
@[simp] theorem State.raiseCreq_rstN : (s.raiseCreq).rstN = s.rstN := rfl
@[simp] theorem State.raiseCreq_obs : (s.raiseCreq).obs = s.obs := rfl
@[simp] theorem State.raiseCreq_pending : (s.raiseCreq).pending = s.pending := rfl
@[simp] theorem State.raiseCreq_wire : (s.raiseCreq).wire = s.wire := rfl

/-! ### `State.takeRequest` -/

@[simp] theorem State.takeRequest_mode (r : CtlRequest) : (s.takeRequest r).mode = s.mode := rfl
@[simp] theorem State.takeRequest_win (r : CtlRequest) : (s.takeRequest r).win = s.win := rfl
@[simp] theorem State.takeRequest_up (r : CtlRequest) : (s.takeRequest r).up = s.up := rfl
@[simp] theorem State.takeRequest_cap (r : CtlRequest) : (s.takeRequest r).cap = s.cap := rfl
@[simp] theorem State.takeRequest_log (r : CtlRequest) : (s.takeRequest r).log = s.log := rfl
@[simp] theorem State.takeRequest_frames (r : CtlRequest) : (s.takeRequest r).frames = s.frames := rfl
@[simp] theorem State.takeRequest_engine (r : CtlRequest) : (s.takeRequest r).engine = s.engine := rfl
@[simp] theorem State.takeRequest_ctl (r : CtlRequest) :
    (s.takeRequest r).ctl = { s.ctl with creq := true, handshake := .working r } := rfl
@[simp] theorem State.takeRequest_flt (r : CtlRequest) : (s.takeRequest r).flt = s.flt := rfl
@[simp] theorem State.takeRequest_down (r : CtlRequest) : (s.takeRequest r).down = s.down := rfl
@[simp] theorem State.takeRequest_link (r : CtlRequest) : (s.takeRequest r).link = s.link := rfl
@[simp] theorem State.takeRequest_rstN (r : CtlRequest) : (s.takeRequest r).rstN = s.rstN := rfl
@[simp] theorem State.takeRequest_obs (r : CtlRequest) : (s.takeRequest r).obs = s.obs := rfl
@[simp] theorem State.takeRequest_pending (r : CtlRequest) : (s.takeRequest r).pending = s.pending := rfl
@[simp] theorem State.takeRequest_wire (r : CtlRequest) : (s.takeRequest r).wire = s.wire := rfl

/-! ### `State.reply` -/

@[simp] theorem State.reply_mode (r : LinkResult) (d : List Byte) (p : Bool) : (s.reply r d p).mode = s.mode := rfl
@[simp] theorem State.reply_win (r : LinkResult) (d : List Byte) (p : Bool) : (s.reply r d p).win = s.win := rfl
@[simp] theorem State.reply_up (r : LinkResult) (d : List Byte) (p : Bool) : (s.reply r d p).up = s.up := rfl
@[simp] theorem State.reply_cap (r : LinkResult) (d : List Byte) (p : Bool) : (s.reply r d p).cap = s.cap := rfl
@[simp] theorem State.reply_log (r : LinkResult) (d : List Byte) (p : Bool) : (s.reply r d p).log = s.log := rfl
@[simp] theorem State.reply_frames (r : LinkResult) (d : List Byte) (p : Bool) :
    (s.reply r d p).frames = s.frames := rfl
@[simp] theorem State.reply_engine (r : LinkResult) (d : List Byte) (p : Bool) :
    (s.reply r d p).engine = s.engine := rfl
@[simp] theorem State.reply_ctl (r : LinkResult) (d : List Byte) (p : Bool) : (s.reply r d p).ctl = s.ctl := rfl
@[simp] theorem State.reply_flt (r : LinkResult) (d : List Byte) (p : Bool) : (s.reply r d p).flt = s.flt := rfl
@[simp] theorem State.reply_down (r : LinkResult) (d : List Byte) (p : Bool) : (s.reply r d p).down = s.down := rfl
@[simp] theorem State.reply_link (r : LinkResult) (d : List Byte) (p : Bool) :
    (s.reply r d p).link = { s.link with frame := .answered (r.code :: d) p 0 } := rfl
@[simp] theorem State.reply_rstN (r : LinkResult) (d : List Byte) (p : Bool) : (s.reply r d p).rstN = s.rstN := rfl
@[simp] theorem State.reply_obs (r : LinkResult) (d : List Byte) (p : Bool) : (s.reply r d p).obs = s.obs := rfl
@[simp] theorem State.reply_pending (r : LinkResult) (d : List Byte) (p : Bool) :
    (s.reply r d p).pending = s.pending := rfl
@[simp] theorem State.reply_wire (r : LinkResult) (d : List Byte) (p : Bool) : (s.reply r d p).wire = s.wire := rfl

/-! ### `State.toSetup` -/

@[simp] theorem State.toSetup_mode : (s.toSetup).mode = { s.mode with state := .setup } := rfl
@[simp] theorem State.toSetup_win : (s.toSetup).win = s.win := rfl
@[simp] theorem State.toSetup_up : (s.toSetup).up = s.up := rfl
@[simp] theorem State.toSetup_cap : (s.toSetup).cap = s.cap := rfl
@[simp] theorem State.toSetup_log : (s.toSetup).log = s.log := rfl
@[simp] theorem State.toSetup_frames : (s.toSetup).frames = { s.frames with stack := [] } := rfl
@[simp] theorem State.toSetup_engine : (s.toSetup).engine = s.engine := rfl
@[simp] theorem State.toSetup_ctl : (s.toSetup).ctl = s.ctl := rfl
@[simp] theorem State.toSetup_flt : (s.toSetup).flt = s.flt := rfl
@[simp] theorem State.toSetup_down : (s.toSetup).down = s.down := rfl
@[simp] theorem State.toSetup_link : (s.toSetup).link = s.link := rfl
@[simp] theorem State.toSetup_rstN : (s.toSetup).rstN = s.rstN := rfl
@[simp] theorem State.toSetup_obs : (s.toSetup).obs = s.obs := rfl
@[simp] theorem State.toSetup_pending : (s.toSetup).pending = s.pending := rfl
@[simp] theorem State.toSetup_wire : (s.toSetup).wire = s.wire := rfl

end Sys2Proof.Machine
end

