-- ==== Sys2Proof/Laws/Settle.lean ====
section
/-! SUPPORT. What `State.settle` does where little or nothing is due: each of its parts leaves the state when its condition
of Safety.lean says that it has nothing to do. -/

namespace Sys2Proof.Machine

/-! ### The parts -/

theorem foldl_fixed {α β : Type} (f : β → α → β) (b : β) :
    ∀ l : List α, (∀ a ∈ l, f b a = b) → l.foldl f b = b
  | [], _ => rfl
  | a :: l, h => by
    rw [List.foldl_cons, h a (List.mem_cons_self ..)]
    exact foldl_fixed f b l fun x hx => h x (List.mem_cons_of_mem _ hx)

theorem findTxn_mem {s : State} {t : Tag} {e : Txn} (h : s.findTxn t = some e) : e ∈ s.up.txns ∧ e.tag = t :=
  ⟨List.mem_of_find?_eq_some h, by simpa using List.find?_some h⟩

theorem wake_of_turnsSettled {s : State} (h : s.turnsSettled = true) : s.wake = s := by
  refine foldl_fixed _ _ _ fun t _ => ?_
  unfold State.wakeOne
  cases hf : s.findTxn t with
  | none => rfl
  | some e =>
    have he : (e.stage == .waitLine && s.hasTurn e) = false := by
      simpa only [Bool.not_eq_true'] using List.all_eq_true.1 h e (findTxn_mem hf).1
    simp only [he, Bool.false_eq_true, if_false]

theorem acceptPresented_of_nothing {s : State} (h : s.nothingToAccept = true) : s.acceptPresented = s := by
  unfold State.acceptPresented
  unfold State.nothingToAccept at h
  cases hp : s.up.presented <;> simp_all

theorem startHold_of_running {s : State} (h : s.log.hold.running = true) : s.startHold = s := by
  unfold State.startHold
  simp [h]

theorem grantLoop_of_nothing {s : State} (h : s.nothingToGrant = true) (n : Nat) : State.grantLoop n false s = s := by
  cases n with
  | zero => rfl
  | succ n =>
    unfold State.grantLoop
    unfold State.nothingToGrant at h
    by_cases hw : (s.cap.waitList.isEmpty || !s.canAsk) = true
    · simp [hw]
    · simp only [Bool.not_eq_true] at hw
      simp only [hw, Bool.false_or, Bool.and_eq_true, decide_eq_true_eq, beq_iff_eq] at h
      obtain ⟨⟨hc, hp⟩, hr⟩ := h
      simp [hw, Nat.not_lt.2 hc, hp, startHold_of_running hr]

theorem grantCaptures_of_nothing {s : State} (h : s.nothingToGrant = true) : s.grantCaptures = s :=
  grantLoop_of_nothing h _

theorem barrierIfDone_of_ne {s : State} (h : s.frames.barrier ≠ some []) : s.barrierIfDone = s := by
  unfold State.barrierIfDone
  split <;> simp_all

theorem startWriter_of_none {s : State} (h : s.writerFront = none) : s.startWriter = s := by
  simp [State.startWriter, h]

theorem quiesceIfOver_of_not {s : State} (h : s.quiesceOver = false) : s.quiesceIfOver = s := by
  simp [State.quiesceIfOver, h]

theorem unwind_of_not {s : State} (h : s.betweenSteps = false) : s.unwind = s := by
  simp [State.unwind, State.unwindLoop, h]

/-! ### The conditions, one by one -/

theorem upstreamCalm_iff {s : State} :
    s.upstreamCalm = true ↔ s.turnsSettled = true ∧ s.nothingToAccept = true ∧ s.nothingToGrant = true := by
  simp [State.upstreamCalm, and_assoc]

theorem calmBeforeUnwind_iff {s : State} :
    s.calmBeforeUnwind = true ↔
      s.upstreamCalm = true ∧ s.frames.barrier ≠ some [] ∧ s.writerFront = none ∧ s.quiesceOver = false := by
  simp [State.calmBeforeUnwind, and_assoc]

theorem calm_iff {s : State} : s.calm = true ↔ s.calmBeforeUnwind = true ∧ s.betweenSteps = false := by
  simp [State.calm]

/-! ### The whole -/

/-- The first parts of `settle`, up to the first grant of captures, have nothing to do. -/
theorem early_of_upstreamCalm {s : State} (h : s.upstreamCalm = true) :
    s.wake.acceptPresented.grantCaptures = s := by
  obtain ⟨h1, h2, h3⟩ := upstreamCalm_iff.1 h
  rw [wake_of_turnsSettled h1, acceptPresented_of_nothing h2, grantCaptures_of_nothing h3]

/-- From the barrier on, a calm state leaves only the arbiter's grants. -/
theorem late_of_calm {s : State} (h : s.calm = true) :
    (s.grantCaptures.startWriter.quiesceIfOver.unwind.grantCaptures.startWriter).arbitrate = s.arbitrate := by
  obtain ⟨hb, hu⟩ := calm_iff.1 h
  obtain ⟨hc, -, hw, hq⟩ := calmBeforeUnwind_iff.1 hb
  obtain ⟨-, -, hg⟩ := upstreamCalm_iff.1 hc
  rw [grantCaptures_of_nothing hg, startWriter_of_none hw, quiesceIfOver_of_not hq, unwind_of_not hu,
    grantCaptures_of_nothing hg, startWriter_of_none hw]

/-- Turns, acceptance and the first grants of captures lead to a calm state: what is left is the arbiter's grants. -/
theorem settle_of_early {s u : State} (hr : s.rstN = true) (he : s.wake.acceptPresented.grantCaptures = u)
    (h : u.calm = true) : s.settle = u.arbitrate := by
  obtain ⟨hb, -⟩ := calm_iff.1 h
  obtain ⟨-, hbar, -, -⟩ := calmBeforeUnwind_iff.1 hb
  simp only [State.settle, hr, if_true, he, barrierIfDone_of_ne hbar, late_of_calm h]

/-- A presented request is taken up, and nothing else is due. -/
theorem settle_of_accepted {s u : State} (hr : s.rstN = true) (ht : s.turnsSettled = true) (ha : s.acceptPresented = u)
    (h : u.calm = true) : s.settle = u.arbitrate := by
  obtain ⟨hb, -⟩ := calm_iff.1 h
  obtain ⟨hc, -⟩ := calmBeforeUnwind_iff.1 hb
  refine settle_of_early hr ?_ h
  rw [wake_of_turnsSettled ht, ha, grantCaptures_of_nothing (upstreamCalm_iff.1 hc).2.2]

/-- Where nothing else is due, what is left of an event is the arbiter's grants. -/
theorem settle_of_calm {s : State} (hr : s.rstN = true) (h : s.calm = true) : s.settle = s.arbitrate :=
  settle_of_early hr (early_of_upstreamCalm (calmBeforeUnwind_iff.1 (calm_iff.1 h).1).1) h

/-- A barrier whose set has become empty completes; the state it leaves is calm. -/
theorem settle_of_barrier {s : State} (hr : s.rstN = true) (hc : s.upstreamCalm = true) (hb : s.frames.barrier = some [])
    (h : s.completeBarrier.calm = true) : s.settle = s.completeBarrier.arbitrate := by
  have hd : s.barrierIfDone = s.completeBarrier := by simp [State.barrierIfDone, hb]
  simp only [State.settle, hr, if_true, early_of_upstreamCalm hc, hd, late_of_calm h]

/-- UNWIND goes on between two steps; the state it leaves is calm. -/
theorem settle_of_unwind {s : State} (hr : s.rstN = true) (hc : s.calmBeforeUnwind = true) (h : s.unwind.calm = true) :
    s.settle = s.unwind.arbitrate := by
  obtain ⟨hu, hbar, hw, hq⟩ := calmBeforeUnwind_iff.1 hc
  obtain ⟨-, -, hg⟩ := upstreamCalm_iff.1 hu
  have hl := late_of_calm h
  obtain ⟨hb', hu'⟩ := calm_iff.1 h
  obtain ⟨hc', -, hw', -⟩ := calmBeforeUnwind_iff.1 hb'
  obtain ⟨-, -, hg'⟩ := upstreamCalm_iff.1 hc'
  simp only [State.settle, hr, if_true, early_of_upstreamCalm hu, barrierIfDone_of_ne hbar, grantCaptures_of_nothing hg,
    startWriter_of_none hw, quiesceIfOver_of_not hq, grantCaptures_of_nothing hg', startWriter_of_none hw']

/-- QUIESCE ends and UNWIND goes on; the state it leaves is calm. -/
theorem settle_of_quiesce {s : State} (hr : s.rstN = true) (hc : s.upstreamCalm = true)
    (hbar : s.frames.barrier ≠ some []) (hw : s.writerFront = none) (hq : s.quiesceOver = true)
    (h : s.endQuiesce.unwind.calm = true) : s.settle = s.endQuiesce.unwind.arbitrate := by
  obtain ⟨-, -, hg⟩ := upstreamCalm_iff.1 hc
  obtain ⟨hb', hu'⟩ := calm_iff.1 h
  obtain ⟨hc', -, hw', -⟩ := calmBeforeUnwind_iff.1 hb'
  obtain ⟨-, -, hg'⟩ := upstreamCalm_iff.1 hc'
  have hqe : s.quiesceIfOver = s.endQuiesce := by simp [State.quiesceIfOver, hq]
  simp only [State.settle, hr, if_true, early_of_upstreamCalm hc, barrierIfDone_of_ne hbar, grantCaptures_of_nothing hg,
    startWriter_of_none hw, hqe, grantCaptures_of_nothing hg', startWriter_of_none hw']

/-- While RST_N is low nothing is due. -/
theorem settle_of_reset {s : State} (hr : s.rstN = false) : s.settle = s := by simp [State.settle, hr]

/-! ### The arbiter -/

theorem oldestOf_mem {age : Waiting → Nat} {w : Waiting} : ∀ {l : List Waiting}, oldestOf age l = some w → w ∈ l
  | [], h => by simp [oldestOf] at h
  | x :: xs, h => by
    unfold oldestOf at h
    cases ho : oldestOf age xs with
    | none => simp_all
    | some v =>
      have := oldestOf_mem ho
      simp only [ho] at h
      split at h <;> simp_all

theorem oldestOf_eq_none {age : Waiting → Nat} {l : List Waiting} : oldestOf age l = none ↔ l = [] := by
  cases l with
  | nil => simp [oldestOf]
  | cons x xs =>
    unfold oldestOf
    cases oldestOf age xs with
    | none => simp
    | some v => by_cases h : age v < age x <;> simp [h]

/-- The arbiter chooses nothing exactly when no request is eligible (R131). -/
theorem nextGrant_eq_none {s : State} : s.nextGrant = none ↔ s.down.eligible = [] := by
  unfold State.nextGrant
  constructor
  · intro h
    simp only [Option.or_eq_none_iff, List.find?_eq_none, oldestOf_eq_none, List.filter_eq_nil_iff, beq_iff_eq] at h
    obtain ⟨h1, h2, h3, h4⟩ := h
    rw [List.eq_nil_iff_forall_not_mem]
    intro w hw
    cases hs : w.origin.source with
    | rollback => exact h1 w hw hs
    | capture => exact h2 w hw hs
    | log => exact h3 w hw hs
    | passthrough => exact h4 w hw hs
  · intro h
    simp [h, oldestOf]

/-- What the arbiter chooses is eligible. -/
theorem nextGrant_mem {s : State} {w : Waiting} (h : s.nextGrant = some w) : w ∈ s.down.eligible := by
  unfold State.nextGrant at h
  simp only [Option.or_eq_some_iff] at h
  rcases h with h | ⟨-, h | ⟨-, h | ⟨-, h⟩⟩⟩
  · exact List.mem_of_find?_eq_some h
  · exact List.mem_of_find?_eq_some h
  · exact List.mem_of_find?_eq_some h
  · exact (List.mem_filter.1 (oldestOf_mem h)).1

theorem arbitrate_of_idle {s : State} (h : s.portIdle = true) : s.arbitrate = s := by
  unfold State.arbitrate
  cases hn : s.down.waiting.length with
  | zero => rfl
  | succ n =>
    unfold State.arbitrateLoop
    simp only [State.portIdle, Bool.or_eq_true, List.isEmpty_iff, Option.isNone_iff_eq_none] at h
    rcases h with h | h
    · simp [h]
    · simp [nextGrant_eq_none.2 h]

/-- Where nothing at all is due, an event ends with its direct effect. -/
theorem settle_of_steady {s : State} (h : s.steady = true) : s.settle = s := by
  simp only [State.steady, Bool.and_eq_true] at h
  cases hr : s.rstN with
  | true => rw [settle_of_calm hr h.1, arbitrate_of_idle h.2]
  | false => exact settle_of_reset hr

/-- What the arbiter's grants leave unchanged: all but the Downstream Port, the data of granted writes and the record of the
requests issued. -/
structure ArbiterKeeps (s t : State) : Prop where
  mode : t.mode = s.mode
  win : t.win = s.win
  presented : t.up.presented = s.up.presented
  nextAge : t.up.nextAge = s.up.nextAge
  entries : t.up.txns.map (fun e => { e with data := none }) = s.up.txns.map fun e => { e with data := none }
  cap : t.cap = s.cap
  log : t.log = s.log
  frames : t.frames = s.frames
  engine : t.engine = s.engine
  ctl : t.ctl = s.ctl
  flt : t.flt = s.flt
  link : t.link = s.link
  rstN : t.rstN = s.rstN
  responses : t.obs.responses = s.obs.responses
  pending : t.pending = s.pending
  wire : t.wire = s.wire

theorem ArbiterKeeps.refl (s : State) : ArbiterKeeps s s := by constructor <;> rfl

theorem ArbiterKeeps.trans {s t u : State} (h : ArbiterKeeps s t) (k : ArbiterKeeps t u) : ArbiterKeeps s u := by
  cases h; cases k
  constructor <;> simp_all

theorem dataTaken_keeps (u : UpstreamPort) (o : Origin) :
    (u.dataTaken o).presented = u.presented ∧ (u.dataTaken o).nextAge = u.nextAge ∧
      (u.dataTaken o).txns.map (fun e => { e with data := none }) = u.txns.map fun e => { e with data := none } := by
  unfold UpstreamPort.dataTaken
  split
  · refine ⟨rfl, rfl, ?_⟩
    rw [List.map_map]
    refine List.map_congr_left fun e _ => ?_
    simp only [Function.comp]
    split <;> rfl
  · exact ⟨rfl, rfl, rfl⟩

theorem grantDown_keeps (s : State) (w : Waiting) (i : Nat) : ArbiterKeeps s (s.grantDown w i) := by
  obtain ⟨h1, h2, h3⟩ := dataTaken_keeps s.up w.origin
  constructor <;> first | rfl | assumption

/-- Once for all: the grants of one event change the Downstream Port, the data of granted writes and the record of the
requests issued, and nothing else. -/
theorem arbitrate_keeps (s : State) : ArbiterKeeps s s.arbitrate := by
  unfold State.arbitrate
  generalize s.down.waiting.length = n
  induction n generalizing s with
  | zero => exact .refl s
  | succ n ih =>
    unfold State.arbitrateLoop
    split
    · exact (grantDown_keeps s _ _).trans (ih _)
    · exact .refl s

end Sys2Proof.Machine
end

