-- ==== Sys2Proof/Laws/Keeps.lean ====
section
/-! SUPPORT. What no consequence within an event changes. `SettleKeeps s t` says once what `State.settle`, and each operation
it is made of, can do to the fields that are not its own: the operating state and the values in force, the Window Table, the
Capture Map, the levels of the pins, the queues of commands and of SCK edges, the Fault Unit but for its deadline
counter, and the frame on the link are unchanged; events, responses and requests issued are only added at the back. -/

namespace Sys2Proof.Machine

structure SettleKeeps (s t : State) : Prop where
  mode : t.mode = s.mode
  win : t.win = s.win
  map : t.cap.map = s.cap.map
  creq : t.ctl.creq = s.ctl.creq
  latches : t.flt.latches = s.flt.latches
  actions : t.flt.actions = s.flt.actions
  pulses : t.flt.pulses = s.flt.pulses
  divisor : t.flt.divisor = s.flt.divisor
  ticks : t.flt.ticks = s.flt.ticks
  deadlineIn : t.flt.deadlineIn = s.flt.deadlineIn
  rstN : t.rstN = s.rstN
  pending : t.pending = s.pending
  wire : t.wire = s.wire
  link : ∃ es : List EventRecord, t.link = es.foldl LinkUnit.post s.link
  responses : ∃ rs, t.obs.responses = s.obs.responses ++ rs
  issued : ∃ rs, t.obs.issued = s.obs.issued ++ rs

namespace SettleKeeps

variable {s t u : State}

theorem refl (s : State) : SettleKeeps s s := by
  constructor <;> first | rfl | exact ⟨[], rfl⟩ | exact ⟨[], (List.append_nil _).symm⟩

theorem trans (h : SettleKeeps s t) (k : SettleKeeps t u) : SettleKeeps s u := by
  obtain ⟨es, hes⟩ := h.link
  obtain ⟨fs, hfs⟩ := k.link
  obtain ⟨rs, hrs⟩ := h.responses
  obtain ⟨qs, hqs⟩ := k.responses
  obtain ⟨is, his⟩ := h.issued
  obtain ⟨js, hjs⟩ := k.issued
  constructor
  case link => exact ⟨es ++ fs, by rw [List.foldl_append, ← hes, hfs]⟩
  case responses => exact ⟨rs ++ qs, by rw [hqs, hrs, List.append_assoc]⟩
  case issued => exact ⟨is ++ js, by rw [hjs, his, List.append_assoc]⟩
  case mode => rw [k.mode, h.mode]
  case win => rw [k.win, h.win]
  case map => rw [k.map, h.map]
  case creq => rw [k.creq, h.creq]
  case latches => rw [k.latches, h.latches]
  case actions => rw [k.actions, h.actions]
  case pulses => rw [k.pulses, h.pulses]
  case divisor => rw [k.divisor, h.divisor]
  case ticks => rw [k.ticks, h.ticks]
  case deadlineIn => rw [k.deadlineIn, h.deadlineIn]
  case rstN => rw [k.rstN, h.rstN]
  case pending => rw [k.pending, h.pending]
  case wire => rw [k.wire, h.wire]

/-- A change of fields that `SettleKeeps` does not speak of. -/
theorem silent (mode : t.mode = s.mode) (win : t.win = s.win) (map : t.cap.map = s.cap.map)
    (creq : t.ctl.creq = s.ctl.creq) (latches : t.flt.latches = s.flt.latches) (actions : t.flt.actions = s.flt.actions)
    (pulses : t.flt.pulses = s.flt.pulses) (divisor : t.flt.divisor = s.flt.divisor) (ticks : t.flt.ticks = s.flt.ticks)
    (deadlineIn : t.flt.deadlineIn = s.flt.deadlineIn) (rstN : t.rstN = s.rstN) (pending : t.pending = s.pending)
    (wire : t.wire = s.wire) (link : t.link = s.link) (responses : t.obs.responses = s.obs.responses)
    (issued : t.obs.issued = s.obs.issued) : SettleKeeps s t where
  mode := mode
  win := win
  map := map
  creq := creq
  latches := latches
  actions := actions
  pulses := pulses
  divisor := divisor
  ticks := ticks
  deadlineIn := deadlineIn
  rstN := rstN
  pending := pending
  wire := wire
  link := ⟨[], link⟩
  responses := ⟨[], by simp [responses]⟩
  issued := ⟨[], by simp [issued]⟩

theorem foldl {α : Type} {f : State → α → State} (hf : ∀ s a, SettleKeeps s (f s a)) :
    ∀ (l : List α) (s : State), SettleKeeps s (l.foldl f s)
  | [], s => refl s
  | a :: l, s => (hf s a).trans (foldl hf l (f s a))

end SettleKeeps

/-! ### The small operations -/

section small

variable (s : State)

theorem post_keeps (b : EventBody) (q : Serial) : SettleKeeps s (s.post b q) := by
  constructor <;> first | rfl | exact ⟨[_], rfl⟩ | exact ⟨[], (List.append_nil _).symm⟩

theorem respond_keeps (t : Tag) (c : UpCode) (d : List Beat) : SettleKeeps s (s.respond t c d) := by
  constructor <;> first | rfl | exact ⟨[_], rfl⟩ | exact ⟨[], rfl⟩ | exact ⟨[], (List.append_nil _).symm⟩

theorem finish_keeps (t : Tag) (c : UpCode) (d : List Beat) : SettleKeeps s (s.finish t c d) := by
  constructor <;> first | rfl | exact ⟨[_], rfl⟩ | exact ⟨[], rfl⟩ | exact ⟨[], (List.append_nil _).symm⟩

theorem grantDown_settleKeeps (w : Waiting) (i : Nat) : SettleKeeps s (s.grantDown w i) := by
  constructor <;> first | rfl | exact ⟨[_], rfl⟩ | exact ⟨[], rfl⟩ | exact ⟨[], (List.append_nil _).symm⟩

theorem answer_keeps (a : CtlAnswer) : SettleKeeps s (s.answer a) := by
  apply SettleKeeps.silent <;> first | rfl | skip
  show (s.ctl.answer a).creq = s.ctl.creq
  unfold ControlPort.answer
  split <;> rfl

theorem stopHold_keeps : SettleKeeps s s.stopHold := by apply SettleKeeps.silent <;> rfl

theorem startHold_keeps : SettleKeeps s s.startHold := by apply SettleKeeps.silent <;> rfl

theorem loadDeadline_keeps : SettleKeeps s s.loadDeadline := by apply SettleKeeps.silent <;> rfl

theorem stopDeadline_keeps : SettleKeeps s s.stopDeadline := by apply SettleKeeps.silent <;> rfl

theorem startSweep_keeps : SettleKeeps s s.startSweep := by apply SettleKeeps.silent <;> rfl

theorem setStage_keeps (t : Tag) (st : Stage) : SettleKeeps s (s.setStage t st) := by apply SettleKeeps.silent <;> rfl

theorem handOver_keeps (w : Waiting) : SettleKeeps s (s.handOver w) := by apply SettleKeeps.silent <;> rfl

theorem issue_keeps (e : Txn) : SettleKeeps s (s.issue e) := by apply SettleKeeps.silent <;> rfl

theorem joinWaitList_keeps (e : Txn) : SettleKeeps s (s.joinWaitList e) := by apply SettleKeeps.silent <;> rfl

theorem reclaim_keeps (q : Seq) : SettleKeeps s (s.reclaim q) := by
  unfold State.reclaim
  dsimp only
  split
  · exact .trans (t := { s with log := s.log.moveTail q }) (by apply SettleKeeps.silent <;> rfl) (stopHold_keeps _)
  · apply SettleKeeps.silent <;> rfl

end small

/-! ### Captures -/

section captures

variable (s : State)

theorem judge_keeps (e : Txn) : SettleKeeps s (s.judge e) := by
  unfold State.judge
  split
  · exact joinWaitList_keeps s e
  · exact issue_keeps s e

theorem rejudgeOne_keeps (t : Tag) : SettleKeeps s (s.rejudgeOne t) := by
  unfold State.rejudgeOne
  split
  · exact .refl s
  · split
    · exact .refl s
    · exact (issue_keeps s _).trans (by apply SettleKeeps.silent <;> rfl)

theorem rejudge_keeps : SettleKeeps s s.rejudge := by
  unfold State.rejudge
  dsimp only
  have h := SettleKeeps.foldl rejudgeOne_keeps s.cap.waitList s
  split
  · exact h.trans (stopHold_keeps _)
  · exact h

theorem breakLowest_keeps (c : BreakCause) : SettleKeeps s (s.breakLowest c) := by
  unfold State.breakLowest
  split
  · exact .refl s
  · rename_i f above _
    dsimp only
    have h : ∀ stack q, SettleKeeps s
        ((({ s with frames.stack := stack } : State).reclaim q).post (.frameBroken c) f.serial) := fun stack q =>
      .trans (t := { s with frames.stack := stack }) (by apply SettleKeeps.silent <;> rfl)
        ((reclaim_keeps _ q).trans (post_keeps _ _ _))
    split
    · exact (h _ _).trans (rejudge_keeps _)
    · exact h _ _

theorem grantOldest_keeps : SettleKeeps s s.grantOldest := by
  unfold State.grantOldest
  split
  · exact .refl s
  · split
    · apply SettleKeeps.silent <;> rfl
    · exact .refl s

theorem grantLoop_keeps (n : Nat) (x : Bool) : SettleKeeps s (State.grantLoop n x s) := by
  induction n generalizing s x with
  | zero => exact .refl s
  | succ n ih =>
    unfold State.grantLoop
    split
    · exact .refl s
    · split
      · exact (grantOldest_keeps s).trans (ih _ _)
      · split
        · exact (breakLowest_keeps s _).trans (ih _ _)
        · split
          · exact (breakLowest_keeps s _).trans (ih _ _)
          · exact startHold_keeps s

theorem grantCaptures_keeps : SettleKeeps s s.grantCaptures := grantLoop_keeps s _ _

theorem expireHold_keeps : SettleKeeps s s.expireHold := by
  unfold State.expireHold
  exact ((stopHold_keeps s).trans (breakLowest_keeps _ _)).trans (grantLoop_keeps _ _ _)

end captures

/-! ### The Upstream Port -/

section upstream

variable (s : State)

theorem proceed_keeps (e : Txn) : SettleKeeps s (s.proceed e) := by
  unfold State.proceed
  split
  · exact judge_keeps s e
  · exact issue_keeps s e

theorem wakeOne_keeps (t : Tag) : SettleKeeps s (s.wakeOne t) := by
  unfold State.wakeOne
  split
  · exact .refl s
  · split
    · exact proceed_keeps s _
    · exact .refl s

theorem wake_keeps : SettleKeeps s s.wake := SettleKeeps.foldl wakeOne_keeps _ s

theorem releaseOne_keeps (t : Tag) : SettleKeeps s (s.releaseOne t) := by
  unfold State.releaseOne
  split
  · exact .refl s
  · split
    · exact proceed_keeps s _
    · exact setStage_keeps s _ _

theorem release_keeps (c : HoldCause) : SettleKeeps s (s.release c) := SettleKeeps.foldl releaseOne_keeps _ s

theorem enroll_keeps (e : Txn) : SettleKeeps s (s.enroll e) := by
  have h : SettleKeeps s { s with up.txns := s.up.txns ++ [e], up.nextAge := s.up.nextAge + 1 } := by
    apply SettleKeeps.silent <;> rfl
  unfold State.enroll
  dsimp only
  split
  · exact h.trans (setStage_keeps _ _ _)
  · split
    · exact h.trans (setStage_keeps _ _ _)
    · split
      · exact h.trans (proceed_keeps _ _)
      · exact h

theorem answerAtAcceptance_keeps (r : Request) (c : UpCode) : SettleKeeps s (s.answerAtAcceptance r c) :=
  .trans (t := { s with up.nextAge := s.up.nextAge + 1 }) (by apply SettleKeeps.silent <;> rfl) (respond_keeps _ _ _ _)

theorem accept_keeps (r : Request) : SettleKeeps s (s.accept r) := by
  unfold State.accept
  repeat' split
  all_goals first | exact answerAtAcceptance_keeps s _ _ | exact enroll_keeps s _

theorem acceptPresented_keeps : SettleKeeps s s.acceptPresented := by
  unfold State.acceptPresented
  split
  · exact .refl s
  · split
    · exact .trans (t := { s with up.presented := none }) (by apply SettleKeeps.silent <;> rfl) (accept_keeps _ _)
    · exact .refl s

end upstream

/-! ### Frames, the log writer and the Rollback Engine -/

section frames

variable (s : State)

theorem push_keeps (c : Serial × Bool) (o : FrameOrigin) : SettleKeeps s (s.push c o) := by
  unfold State.push
  dsimp only
  refine .trans ?_ (post_keeps _ _ _)
  refine .trans ?_ (loadDeadline_keeps _)
  split
  · exact .trans (t := { s with
      frames.stack := _
      frames.counter := _
      frames.held := _ }) (by apply SettleKeeps.silent <;> rfl) (startSweep_keeps _)
  · apply SettleKeeps.silent <;> rfl

theorem fold_keeps : SettleKeeps s s.fold := by
  unfold State.fold
  split
  · dsimp only
    rename_i b a rest _
    have h : SettleKeeps s
        (({ s with frames.stack := { b with folded := true } :: rest } : State).post (.framesFolded a.serial) b.serial) :=
      .trans (t := { s with frames.stack := { b with folded := true } :: rest }) (by apply SettleKeeps.silent <;> rfl)
        (post_keeps _ _ _)
    split
    · exact h.trans ((reclaim_keeps _ _).trans (post_keeps _ _ _))
    · exact h
  · exact .refl s

theorem decideOpen_keeps : SettleKeeps s s.decideOpen := by
  unfold State.decideOpen
  dsimp only
  repeat' split
  · exact answer_keeps s _
  · exact answer_keeps s _
  · exact (fold_keeps s).trans ((push_keeps _ _ _).trans (answer_keeps _ _))
  · exact (push_keeps s _ _).trans (answer_keeps _ _)

theorem completeBarrier_keeps : SettleKeeps s s.completeBarrier :=
  .trans (t := { s with frames.barrier := none }) (by apply SettleKeeps.silent <;> rfl)
    ((decideOpen_keeps _).trans (release_keeps _ _))

theorem barrierIfDone_keeps : SettleKeeps s s.barrierIfDone := by
  unfold State.barrierIfDone
  split
  · exact completeBarrier_keeps s
  · exact .refl s
  · exact .refl s

theorem beginAttempt_keeps (e : StagingEntry) (a : Attempt) : SettleKeeps s (s.beginAttempt e a) := by
  apply SettleKeeps.silent <;> rfl

theorem startWriter_keeps : SettleKeeps s s.startWriter := by
  unfold State.startWriter
  split
  · exact beginAttempt_keeps s _ _
  · exact .refl s

theorem endQuiesce_keeps : SettleKeeps s s.endQuiesce := by apply SettleKeeps.silent <;> rfl

theorem quiesceIfOver_keeps : SettleKeeps s s.quiesceIfOver := by
  unfold State.quiesceIfOver
  split
  · exact endQuiesce_keeps s
  · exact .refl s

theorem beginStep_keeps : SettleKeeps s s.beginStep := by
  unfold State.beginStep
  split
  · unfold State.stageStep
    split
    · exact .refl s
    · apply SettleKeeps.silent <;> rfl
    · apply SettleKeeps.silent <;> rfl
  · apply SettleKeeps.silent <;> rfl

theorem popFrames_keeps : SettleKeeps s s.popFrames := by
  unfold State.popFrames
  dsimp only
  refine .trans ?_ (post_keeps _ _ _)
  have h : SettleKeeps s { s with frames.stack := s.frames.stack.take s.targetDepth } := by
    apply SettleKeeps.silent <;> rfl
  split
  · exact h.trans (reclaim_keeps _ _)
  · exact h

theorem giveOwed_keeps (p : Bool) : SettleKeeps s (s.giveOwed p) := by
  unfold State.giveOwed
  split
  · exact .refl s
  · exact answer_keeps s _
  · exact answer_keeps s _

theorem takeReservation_keeps : SettleKeeps s s.takeReservation := by
  unfold State.takeReservation
  split
  · dsimp only
    have h : SettleKeeps s { s with ctl.reserved := false } := by apply SettleKeeps.silent <;> rfl
    split
    · exact h.trans (post_keeps _ _ _)
    · exact h.trans ((push_keeps _ _ _).trans (post_keeps _ _ _))
  · exact .refl s

theorem reloadIfFrames_keeps : SettleKeeps s s.reloadIfFrames := by
  unfold State.reloadIfFrames
  split
  · exact .refl s
  · exact loadDeadline_keeps s

theorem completeRollback_keeps : SettleKeeps s s.completeRollback := by
  unfold State.completeRollback
  dsimp only
  refine .trans ?_ (t := ((((s.popFrames).giveOwed _).takeReservation).release .rollback).reloadIfFrames)
    (by apply SettleKeeps.silent <;> rfl)
  exact ((((popFrames_keeps s).trans (giveOwed_keeps _ _)).trans (takeReservation_keeps _)).trans (release_keeps _ _)).trans
    (reloadIfFrames_keeps _)

theorem unwindLoop_keeps (n : Nat) : SettleKeeps s (State.unwindLoop n s) := by
  induction n generalizing s with
  | zero => exact .refl s
  | succ n ih =>
    unfold State.unwindLoop
    split
    · split
      · exact completeRollback_keeps s
      · exact (beginStep_keeps s).trans (ih _)
    · exact .refl s

theorem unwind_keeps : SettleKeeps s s.unwind := unwindLoop_keeps s _

theorem arbitrate_settleKeeps : SettleKeeps s s.arbitrate := by
  unfold State.arbitrate
  generalize s.down.waiting.length = n
  induction n generalizing s with
  | zero => exact .refl s
  | succ n ih =>
    unfold State.arbitrateLoop
    split
    · exact (grantDown_settleKeeps s _ _).trans (ih _)
    · exact .refl s

/-- Whatever is due at an event, it keeps the fields of `SettleKeeps`. -/
theorem settle_keeps : SettleKeeps s s.settle := by
  unfold State.settle
  split
  · dsimp only
    refine .trans ?_ (arbitrate_settleKeeps _)
    refine .trans ?_ (startWriter_keeps _)
    refine .trans ?_ (grantCaptures_keeps _)
    refine .trans ?_ (unwind_keeps _)
    refine .trans ?_ (quiesceIfOver_keeps _)
    refine .trans ?_ (startWriter_keeps _)
    refine .trans ?_ (grantCaptures_keeps _)
    refine .trans ?_ (barrierIfDone_keeps _)
    refine .trans ?_ (grantCaptures_keeps _)
    exact (wake_keeps s).trans (acceptPresented_keeps _)
  · exact .refl s

end frames

end Sys2Proof.Machine
end

