-- ==== Sys2Proof/Laws/Link.lean ====
section
/-! SUPPORT. What an edge of SCK can do, said once (`execEdge_cases`), with the bits of bytes and the two readings of a link
frame. -/

namespace Sys2Proof.Machine

/-! ### Bits and bytes -/

@[simp] theorem byteBits_length (b : Byte) : (byteBits b).length = 8 := by simp [byteBits]

@[simp] theorem frameBits_nil : frameBits [] = [] := rfl

@[simp] theorem frameBits_cons (b : Byte) (bytes : List Byte) : frameBits (b :: bytes) = byteBits b ++ frameBits bytes := rfl

@[simp] theorem frameBits_append (xs ys : List Byte) : frameBits (xs ++ ys) = frameBits xs ++ frameBits ys := by
  simp [frameBits]

@[simp] theorem frameBits_length (bytes : List Byte) : (frameBits bytes).length = 8 * bytes.length := by
  induction bytes with
  | nil => rfl
  | cons b bytes ih => simp [ih]; omega

/-- Bit `n` of a frame is a bit of byte `n / 8`, most significant first, and 0 after the last byte. -/
theorem frameBits_getD (bytes : List Byte) (n : Nat) :
    (frameBits bytes).getD n false =
      if n < 8 * bytes.length then (bytes.getD (n / 8) 0#8).getLsbD (7 - n % 8) else false := by
  induction bytes generalizing n with
  | nil => simp
  | cons b bytes ih =>
    rw [frameBits_cons]
    by_cases hn : n < 8
    · rw [List.getD_append _ _ _ _ (by simpa using hn), if_pos (by simp only [List.length_cons]; omega)]
      interval_cases n <;> simp [byteBits]
    · rw [List.getD_append_right _ _ _ _ (by simpa using hn), ih]
      simp only [byteBits_length, List.length_cons]
      rw [show n / 8 = (n - 8) / 8 + 1 by omega, show (n - 8) % 8 = n % 8 by omega, List.getD_cons_succ]
      by_cases h8 : n - 8 < 8 * bytes.length
      · rw [if_pos h8, if_pos (by omega)]
      · rw [if_neg h8, if_neg (by omega)]

/-- A byte is what its eight bits make. -/
theorem byteOfBits_byteBits (b : Byte) : byteOfBits (byteBits b) = b := by
  revert b; decide +kernel

/-- Eight bits are the bits of the byte that they make. -/
theorem byteBits_byteOfBits (bits : List Bool) (h : bits.length = 8) : byteBits (byteOfBits bits) = bits := by
  match bits, h with
  | [a, b, c, d, e, f, g, i], _ => revert a b c d e f g i; decide

/-! ### The two readings of a link frame -/

theorem itemBytes_valueOfBytes (b0 b1 b2 b3 b4 b5 : Byte) :
    itemBytes (valueOfBytes [b0, b1, b2, b3, b4, b5]) = [b0, b1, b2, b3, b4, b5] := by
  simp only [itemBytes, List.range, List.range.loop, List.map, itemByte, valueOfBytes, List.foldl]
  simp only [List.cons.injEq, and_true]
  refine ⟨?_, ?_, ?_, ?_, ?_, ?_⟩ <;>
    (ext i hi; simp only [BitVec.getElem_extractLsb', BitVec.getLsbD_or, BitVec.getLsbD_shiftLeft,
      BitVec.getLsbD_setWidth, BitVec.getLsbD_zero]; interval_cases i <;> simp [BitVec.getLsbD_eq_getElem])

/-- A frame that decodes is the frame of the command that it decodes to. -/
theorem encodeFrame_of_decodeFrame {bytes : List Byte} {i : Instr} (h : decodeFrame bytes = some i) :
    encodeFrame i = some bytes := by
  unfold decodeFrame at h
  split at h
  · cases h
  · split at h <;> cases h <;> simp_all [encodeFrame, itemBytes_valueOfBytes, BitVec.toNat_eq]

/-- A command is ready when the bytes received, and the bits of the next, are the first ones of its frame. -/
theorem ready_receiving {s : State} {i : Instr} {f bytes : List Byte} {bits : List Bool} (hr : s.rstN = true)
    (hf : s.link.frame = .receiving bytes bits) (he : encodeFrame i = some f)
    (hp : frameBits bytes ++ bits <+: frameBits f) : s.ready i = true := by
  simp [State.ready, hf, he, hr, hp]

/-- The command that the eighth bit of a byte completes is ready. -/
theorem ready_of_eighth_bit {s : State} {i : Instr} {bytes : List Byte} {bits : List Bool} {sdi : Bool}
    (hr : s.rstN = true) (hf : s.link.frame = .receiving bytes bits) (hb : bits.length = 7)
    (hd : decodeFrame (bytes ++ [byteOfBits (bits ++ [sdi])]) = some i) : s.ready i = true := by
  refine ready_receiving hr hf (encodeFrame_of_decodeFrame hd) ⟨[sdi], ?_⟩
  simp [byteBits_byteOfBits (bits ++ [sdi]) (by simp [hb])]

/-! ### The edges -/

/-- All that an edge of SCK can do: carry out the command whose frame the edge completes, which is then ready; remove a popped
record; or change the frame in progress or the bit on SDO, and nothing else. -/
theorem execEdge_cases (e : SckEdge) (s : State) :
    (∃ i bytes bits sdi, e = .rise sdi ∧ s.link.frame = .receiving bytes bits ∧
        decodeFrame (bytes ++ [byteOfBits (bits ++ [sdi])]) = some i ∧ 7 ≤ bits.length ∧ s.rstN = true ∧
        execEdge e s = exec i s) ∨
      execEdge e s = exec .eventRemoved s ∨
      ∃ frame sdo, execEdge e s = .next { s with link.frame := frame, link.sdo := sdo } := by
  have same : ∀ (o : Host.Outcome State Fault Refusal), o = .next s →
      ∃ frame sdo, o = .next { s with link.frame := frame, link.sdo := sdo } :=
    fun o h => ⟨s.link.frame, s.link.sdo, h⟩
  cases e with
  | fall => exact .inr (.inr ⟨s.link.frame, _, rfl⟩)
  | rise sdi =>
    unfold execEdge State.sckRise
    simp only
    split
    · exact .inr (.inr (same _ rfl))
    · rename_i bytes bits hf
      split
      · rename_i hr
        unfold State.receiveBit
        split
        · exact .inr (.inr ⟨_, s.link.sdo, rfl⟩)
        · rename_i hb
          dsimp only
          split
          · rename_i i hi
            exact .inl ⟨i, bytes, bits, sdi, rfl, hf, hi, by omega, hr, rfl⟩
          · exact .inr (.inr ⟨_, s.link.sdo, rfl⟩)
      · exact .inr (.inr (same _ rfl))
    · split
      · unfold State.shiftOut
        split
        · exact .inr (.inl rfl)
        · exact .inr (.inr ⟨_, s.link.sdo, rfl⟩)
      · exact .inr (.inr (same _ rfl))

end Sys2Proof.Machine
end

