-- ==== Sys2Proof/Tests/Slice0.lean ====
section
/-! SUPPORT. Tests of the model, each on one step, with results taken from the spec, and a witness for the hypotheses of each
statement. -/

namespace Sys2Proof.Tests

open Sys2Proof Sys2Proof.Machine

/- One theorem after another: evaluated side by side, so many closed facts take more threads than a small machine has. -/
set_option Elab.async false

/-! ### Small states -/

/-- What a command answers, when it answers a next state. -/
def after (i : Instr) (s : State) : Option State :=
  match exec i s with
  | .next t => some t
  | .fault _ | .refused _ => none

/-- What one step answers, when it answers a next state. -/
def stepped (s : State) : Option State :=
  match step s with
  | .next t => some t
  | .fault _ | .refused _ => none

/-- ACTIVE with one window of one page at page 0x100, a log of 64 records at page 0x200, and no sweep in flight. -/
def active : State :=
  { State.reset with
    mode.state := .active
    mode.reservation := true
    win := { windows := [{ enable := true, basePage := 0x100#28, pages := 1, mapOffset := 0 }], logBase := 0x200#28,
             capacity := 64 }
    cap.map := { written := [], knownBelow := 32768, powerUp := 0 }
    cap.sweep := { inFlight := false, position := 32768 } }

/-- A frame with a serial and a status, starting at 0. -/
def frameOf (serial : Serial) (status : FrameStatus) : Frame :=
  { serial := serial, start := 0#32, status := status, origin := .control, folded := false }

/-- `active` with one INTACT frame of serial 1. -/
def framed : State := { active with frames.stack := [frameOf 1#16 .intact], frames.counter := 1#16 }

/-- `framed` while a rollback to depth 0 quiesces. -/
def rolling : State :=
  { framed with
    engine := { phase := .quiesce, target := some 0, owed := .rollback, quiesce := [5#5], hand := none, applied := 0 }
    ctl.handshake := .working .abort }

/-- A read of one group. -/
def readOf (tag : Tag) (addr : Addr) : Request := { tag := tag, dir := .read, addr := addr, length := 1, beats := [] }

/-- A write of one group. -/
def writeOf (tag : Tag) (addr : Addr) : Request :=
  { tag := tag, dir := .write, addr := addr, length := 1, beats := [{ data := 7#64, strobe := 0xFF#8 }] }

/-- A guarded write of line 0x100000, in a stage, with age 0. -/
def entryOf (tag : Tag) (stage : Stage) : Txn :=
  { tag := tag, dir := .write, addr := 0x100000#40, length := 1, line := 0x100000#40,
    data := some [{ data := 7#64, strobe := 0xFF#8 }], cls := .guarded 0 0, age := 0, stage := stage }

/-- A state with one entry in use. -/
def withEntry (s : State) (e : Txn) : State := { s with up.txns := [e], up.nextAge := 1 }

/-- A state whose downstream slot 0 is OUTSTANDING for an origin. -/
def withSlot (s : State) (o : Origin) (line : Addr) : State :=
  { s with down.slots := .outstanding o line false :: List.replicate 15 .free }

/-- A state that receives a frame on the link. -/
def receiving (s : State) : State := { s with link.csN := false, link.frame := .receiving [] [] }

/-- The staged record of sequence 0. -/
def recordOf (content : Content) : StagingEntry :=
  { seq := 0#32, serial := 1#16, window := 0, mapIndex := 0, line := 0x100000#40, content := content }

/-- `framed` with one record, staged. -/
def logged (content : Content) : State := { framed with log.head := 1#32, log.staging := [recordOf content] }

/-- `framed` while the guarded write 3 waits for the pre-image read in downstream slot 0. -/
def capturing : State :=
  { withSlot (withEntry (logged .pending) (entryOf 3#5 .capture)) (.slot 0) 0x100000#40 with
    cap.slots :=
      [some { write := some 3#5, seq := 0#32, serial := 1#16, line := 0x100000#40, mapIndex := 0, abandoned := false },
       none, none, none] }

/-- `framed` with the write 3 on the capture wait list. -/
def waiting : State := { withEntry framed (entryOf 3#5 .capture) with cap.waitList := [3#5] }

/-- An image. -/
def image : LineData := 0x0123456789ABCDEF#512

/-- The downstream slots 1 and 2 hold the two lines of the log slot of sequence 0, so that no log write to them is granted. -/
def logBusy (s : State) : State :=
  { s with down.slots := (s.down.slots.set 1 (.stale 0x200000#40)).set 2 (.stale 0x200040#40) }

/-- A state in UNWIND with target 0, between steps. -/
def unwinding (s : State) : State :=
  { s with
    engine := { phase := .unwind, target := some 0, owed := .rollback, quiesce := [], hand := none, applied := 0 }
    ctl.handshake := .working .abort }

/-- A setup table that LEAVE_SETUP accepts: window 0 of one page at page 0x100, a log of 64 records at page 0x200. -/
def goodSetup : List ItemValue := (setupDefaults.set 0 0x800100000100#48).set 8 0x000000000200#48 |>.set 9 0x000000000040#48

/-! ### WellFormed refuses what an interface cannot carry -/

theorem test_wf_read_without_beats : (Instr.acceptRequest (readOf 1 0)).wf = true := by decide

theorem test_wf_read_with_beats :
    (Instr.acceptRequest { readOf 1 0 with beats := [{ data := 0#64, strobe := 0#8 }] }).wf = false := by decide

theorem test_wf_write_short_of_beats : (Instr.acceptRequest { writeOf 1 0 with length := 2 }).wf = false := by decide

theorem test_wf_known_byte_is_no_unknown_command : (Instr.unknownCommand 0x01#8).wf = false := by decide

theorem test_wf_response_of_nine_beats :
    (Instr.passthroughResponse 0 (.ok (List.replicate 9 0#64))).wf = false := by decide

/-! ### Layouts -/

/-- 11 section 11.2: the check of the nine ASCII bytes of "123456789" is 0xCBF43926. -/
theorem test_crc_check_value :
    crc32 [0x31#8, 0x32#8, 0x33#8, 0x34#8, 0x35#8, 0x36#8, 0x37#8, 0x38#8, 0x39#8] = 0xCBF43926#32 := by
  decide +kernel

/-- Table 11.2: the command bytes and operands. -/
theorem test_frame_of_each_shape :
    decodeFrame [0x01#8] = some .status ∧ decodeFrame [0x03#8, 0x02#8] = some (.frameRead 0x02#8) ∧
      decodeFrame [0x05#8, 0x09#8, 0x00#8, 0x00#8, 0x00#8, 0x00#8, 0x00#8, 0x40#8] =
        some (.setupWrite 0x09#8 0x000000000040#48) ∧
      decodeFrame [0x09#8, 0x01#8] = some (.forceAbort 0x01#8) ∧ decodeFrame [0x0A#8] = some (.unknownCommand 0x0A#8) ∧
      decodeFrame [0x03#8] = none := by decide

/-- Table 9.2 and Table 11.7: a window item with enable, 16 pages at page 0x40000. -/
theorem test_window_item :
    windowOfItem 0x801000040000#48 = { enable := true, basePage := 0x40000#28, pages := 16, mapOffset := 0 } := by decide

/-- Table 11.1: the sequence in bytes 0 to 3, the kind in byte 4. -/
theorem test_header_bytes :
    (headerFields { recordOf .void with seq := 0x01020304#32 }).take 6 = [0x01#8, 0x02#8, 0x03#8, 0x04#8, 0x02#8, 0x00#8] := by
  decide

/-! ### The upstream port -/

theorem test_accept_malformed :
    (after (.acceptRequest { readOf 1#5 0x38#40 with length := 2 }) active).map (fun t => t.obs.responses) =
      some [{ tag := 1#5, code := .formerr, data := [] }] := by decide +kernel

theorem test_accept_guarded_write_captures :
    (after (.acceptRequest (writeOf 3#5 0x100040#40)) framed).map (fun t => (t.log.head, t.log.staging.map (·.mapIndex))) =
      some (1#32, [1]) := by decide +kernel

theorem test_passthrough_frees_tag :
    (after (.passthroughResponse 0#4 .err) (withSlot (withEntry active (entryOf 3#5 .issued)) (.txn 3#5) 0x100000#40)).map
      (fun t => (t.up.txns, t.obs.responses)) = some ([], [{ tag := 3#5, code := .memerr, data := [] }]) := by
  decide +kernel

/-! ### The control port -/

theorem test_open_pushes_serial_1 :
    (after .openFrame active).map (fun t => (t.frames.stack.map Frame.serial, t.ctl.cresp)) = some ([1#16], .done) := by
  decide +kernel

theorem test_open_in_setup_is_offline :
    (after .openFrame State.reset).map (fun t => (t.ctl.cresp, t.cack)) = some (.offline, true) := by decide +kernel

theorem test_commit_at_depth_1 :
    (after .commit (logged .void)).map (fun t => (t.frames.stack, t.log.tail)) = some ([], 1#32) := by decide +kernel

theorem test_abort_unwinds_an_empty_frame_at_once :
    (after .abort framed).map (fun t => (t.frames.stack, t.engine.phase, t.ctl.cresp)) = some ([], .idle, .done) := by
  decide +kernel

theorem test_abort_all_absorbs_a_waiting_write :
    (after .abortAll waiting).map (fun t => t.obs.responses) = some [{ tag := 3#5, code := .ok, data := [] }] := by
  decide +kernel

theorem test_creq_rise_in_working_is_ignored :
    (after .creqRiseIgnored { rolling with ctl.creq := false }).map (fun t => (t.ctl.creq, t.ctl.handshake)) =
      some (true, .working .abort) := by decide +kernel

theorem test_creq_fall_lowers_cack :
    (after .creqFall { active with ctl.creq := true, ctl.handshake := .answered .commit }).map State.cack = some false := by
  decide +kernel

theorem test_release_after_early_withdrawal :
    (after .release { active with ctl.handshake := .answered .commit }).map State.cack = some false := by decide +kernel

theorem test_barrier_completion_pushes :
    (after .barrierCompletion { active with frames.barrier := some [], ctl.handshake := .working .openFrame }).map
      (fun t => (t.frames.stack.length, t.frames.barrier)) = some (1, none) := by decide +kernel

/-! ### Faults, ticks and reset -/

theorem test_fault_line_rise : (after (.faultLineRise .flt2) active).map (·.flt.latches.flt2) = some true := by decide +kernel

theorem test_take_fault_notes :
    (after (.takeFault .flt2) { active with flt.latches.flt2 := true }).map (fun t => (t.flt.latches.flt2, t.irqN)) =
      some (false, false) := by decide +kernel

theorem test_tref_pulse_ticks : (after .trefPulse active).map (·.flt.ticks) = some 1#32 := by decide +kernel

theorem test_hold_expired_breaks :
    (after .holdExpired { waiting with log.tail := 0#32 - 64#32, log.hold := { running := true, value := 16 } }).map
      (fun t => (t.frames.stack.map Frame.status, t.cap.waitList)) = some ([.broken], []) := by decide +kernel

theorem test_deadline_expiry_stops :
    (after .deadlineExpiry { active with flt.deadline := { running := true, value := 0 } }).map (·.flt.deadline) =
      some { running := false, value := 0 } := by decide +kernel

theorem test_hard_reset_keeps_lines_busy :
    (after (.hardReset .rstLow) (withSlot active .writeBack 0x40#40)).map (fun t => (t.mode.state, t.dslot 0#4)) =
      some (.setup, .stale 0x40#40) := by decide +kernel

theorem test_rst_n_rise_accepts :
    (after .rstNRise { State.reset with rstN := false, up.presented := some (readOf 1#5 0#40) }).map
      (fun t => t.up.txns.map Txn.tag) = some [1#5] := by decide +kernel

/-! ### The management link -/

theorem test_cs_n_fall : (after .csNFall State.reset).map (·.link.frame) = some (.receiving [] []) := by decide +kernel

theorem test_cs_n_rise : (after .csNRise (receiving State.reset)).map (·.link.frame) = some .absent := by decide +kernel

theorem test_status_of_reset :
    (after .status (receiving State.reset)).map (·.link.frame) =
      some (.answered [0#8, 0#8, 0#8, 0#8, 0#8, 0#8, 0#8, 0#8, 1#8] false 0) := by decide +kernel

theorem test_event_pop_empty :
    (after .eventPop (receiving active)).map (·.link.frame) = some (.answered [0x05#8] false 0) := by decide +kernel

theorem test_event_removed_raises_irq_n :
    (after .eventRemoved
      { active with
        link := { csN := false, frame := .answered [] true 0, sdo := false,
                  events := [{ body := .sweepDone, stamp := 0, depth := 0, serial := 0 }], overrun := true } }).map
      (fun t => (t.irqN, t.link.overrun)) = some (true, false) := by decide +kernel

theorem test_frame_read :
    (after (.frameRead 0x00#8) (receiving framed)).map (·.link.frame) =
      some (.answered [0#8, 0#8, 1#8, 0#8, 0#8, 0#8, 0#8, 0#8, 0#8, 0#8] false 0) := by decide +kernel

theorem test_setup_read_default :
    (after (.setupRead 0x0A#8) (receiving active)).map (·.link.frame) =
      some (.answered [0#8, 0#8, 0x10#8, 0#8, 0#8, 0#8, 0#8] false 0) := by decide +kernel

theorem test_setup_write_bad_value :
    (after (.setupWrite 0x0D#8 0x000000000000#48) (receiving State.reset)).map (·.link.frame) =
      some (.answered [0x03#8] false 0) := by decide +kernel

theorem test_enter_setup_busy :
    (after .enterSetup (receiving framed)).map (fun t => (t.mode.state, t.link.frame)) =
      some (.active, .answered [0x04#8] false 0) := by decide +kernel

theorem test_leave_setup_no_window :
    (after .leaveSetup (receiving State.reset)).map (·.link.frame) = some (.answered [0x06#8, 0x01#8] false 0) := by
  decide +kernel

theorem test_recover :
    (after .recover (receiving { framed with mode.state := .failed })).map
      (fun t => (t.mode.state, t.frames.stack, t.cap.sweep.inFlight)) = some (.active, [], true) := by decide +kernel

theorem test_force_abort_pops :
    (after (.forceAbort 0x00#8) (receiving framed)).map (fun t => (t.frames.stack, t.link.frame)) =
      some ([], .answered [0x00#8] false 0) := by decide +kernel

/-- The eighth bit makes the byte 0x03, most significant bit first (R150). -/
theorem test_eighth_bit_makes_a_byte :
    (stepped
      { receiving framed with
        wire := [.rise true]
        link.frame := .receiving [] [false, false, false, false, false, false, true] }).map (·.link.frame) =
      some (.receiving [0x03#8] []) := by decide +kernel

/-- FRAME_READ 0 takes effect at the rise of the last bit of its operand byte (R150). -/
theorem test_last_bit_carries_out_the_command :
    (stepped
      { receiving framed with
        wire := [.rise false]
        link.frame := .receiving [0x03#8] (List.replicate 7 false) }).map (·.link.frame) =
      some (.answered [0#8, 0#8, 1#8, 0#8, 0#8, 0#8, 0#8, 0#8, 0#8, 0#8] false 0) := by decide +kernel

/-- Bit 5 of the result 0x05, EMPTY, counted from the most significant, is 1, and bit 6 is 0 (R150, R151). -/
theorem test_fall_shows_the_next_bit :
    let s := fun n : Nat => ({ receiving active with wire := [.fall], link.frame := .answered [0x05#8] false n } : State)
    (stepped (s 5)).map State.sdoPin = some (some true) ∧ (stepped (s 6)).map State.sdoPin = some (some false) := by
  decide +kernel

/-- The last bit of a popped record removes it (R157). -/
theorem test_last_bit_pops :
    (stepped
      { receiving active with
        wire := [.rise false]
        link.frame := .answered [0x00#8] true 7
        link.events := [{ body := .sweepDone, stamp := 0, depth := 0, serial := 0 }] }).map (·.irqN) = some true := by
  decide +kernel

theorem test_unknown_command :
    (after (.unknownCommand 0x7F#8) (receiving active)).map (·.link.frame) = some (.answered [0x03#8] false 0) := by
  decide +kernel

/-! ### Captures, log and rollback -/

theorem test_capture_grant : (after .captureGrant waiting).map (fun t => (t.log.head, t.cap.waitList)) = some (1#32, []) := by
  decide +kernel

theorem test_pre_image_err_answers_memerr :
    (after (.preImageResponse 0#4 .err) (logBusy capturing)).map (fun t => (t.obs.responses, t.cap.map.read 0)) =
      some ([{ tag := 3#5, code := .memerr, data := [] }], 0#16) := by decide +kernel

theorem test_pre_image_ok_writes_the_map :
    (after (.preImageResponse 0#4 (.ok image)) (logBusy capturing)).map (fun t => t.cap.map.read 0) = some 1#16 := by decide +kernel

theorem test_log_writer_start :
    (after .logWriterStart (logBusy (logged .void))).map (fun t => t.down.waiting.map (·.addr)) =
      some [0x200000#40, 0x200040#40] := by decide +kernel

theorem test_log_write_response_counts :
    (after (.logWriteResponse 0#4 .ok)
      { withSlot (logged .void) .logHeader 0x200000#40 with
        log.writer := some { seq := 0#32, attempt := .first, orphaned := false, answers := 0, anyErr := false } }).map
      (fun t => t.log.writer.map (·.answers)) = some (some 1) := by decide +kernel

theorem test_quiesce_end_takes_the_staged_image :
    (after .quiesceEnd { logged (.image image) with
        engine := { phase := .quiesce, target := some 0, owed := .none, quiesce := [], hand := none, applied := 0 } }).map
      (fun t => (t.engine.phase, t.obs.issued.map (·.addr))) = some (.unwind, [0x100000#40]) := by decide +kernel

theorem test_unwind_step_reads_the_region :
    (after .unwindStep (unwinding { framed with log.head := 1#32 })).map (fun t => t.obs.issued.map (·.addr)) =
      some [0x200000#40, 0x200040#40] := by decide +kernel

theorem test_unwind_read_err_fails_the_device :
    (after (.unwindReadResponse 0#4 .err)
      { withSlot (unwinding { framed with log.head := 1#32 }) .unwindImage 0x200040#40 with
        engine.hand := some { seq := 0#32, source := .region, step := .reading (some (.ok 0#512)) none } }).map
      (fun t => (t.mode.state, t.ctl.cresp)) = some (.failed, .failed) := by decide +kernel

theorem test_write_back_completes :
    (after (.writeBackResponse 0#4 .ok)
      { withSlot (unwinding (logged (.image image))) .writeBack 0x100000#40 with
        engine.hand := some { seq := 0#32, source := .staging, step := .writing } }).map
      (fun t => (t.log.head, t.frames.stack, t.ctl.cresp)) = some (0#32, [], .done) := by decide +kernel

theorem test_rollback_completion :
    (after .rollbackCompletion (unwinding framed)).map (fun t => (t.frames.stack, t.engine.phase)) = some ([], .idle) := by
  decide +kernel

theorem test_downstream_grant_takes_the_lowest_tag :
    (after .downstreamGrant
      { active with down.waiting := [{ origin := .slot 0, dir := .read, addr := 0#40, length := 8, beats := [] }] }).map
      (fun t => t.obs.issued.map (·.tag)) = some [0] := by decide +kernel

theorem test_discarded_response_frees :
    (after (.discardedResponse 0#4) { active with down.slots := .stale 0#40 :: List.replicate 15 .free }).map
      (fun t => t.dslot 0#4) = some .free := by decide +kernel

theorem test_sweep_ends_after_the_last_entry :
    (after .sweepClear { active with cap.sweep := { inFlight := true, position := 32767 } }).map
      (fun t => (t.cap.sweep.inFlight, t.link.events.map (·.body.code))) = some (false, [0x0C#8]) := by decide +kernel

/-! ### Witnesses: states and operands that meet the hypotheses of each statement, clause by clause -/

theorem witness_StepRunsFrontCommand :
    ({ active with pending := [.status] } : State).pending = .status :: [] ∧ active.pending = [] ∧ active.wire = [] ∧
      ({ active with wire := [.fall] } : State).wire = .fall :: [] := ⟨rfl, rfl, rfl, rfl⟩

theorem witness_LinkFrameDecodesToItsCommand :
    (Instr.setupWrite 0x13#8 0xFFFFFFFFFFFF#48).wf = true ∧
      encodeFrame (.setupWrite 0x13#8 0xFFFFFFFFFFFF#48) =
        some [0x05#8, 0x13#8, 0xFF#8, 0xFF#8, 0xFF#8, 0xFF#8, 0xFF#8, 0xFF#8] := by decide

theorem witness_StoredRecordVerifies :
    (recordOf (.image image)).content = .image image ∧ (recordOf .void).content = .void ∧
      (recordOf .void).content ≠ .pending ∧ 1#32 ≠ (recordOf .void).seq :=
  ⟨rfl, rfl, by decide, by decide⟩

/-- Table 11.7 at the ends of its ranges. -/
theorem witness_SetupItemRangesByByte :
    itemInRange 0x07 0x82000FFFFFFF#48 = true ∧ itemInRange 0x07 0x820100000000#48 = false ∧
      itemInRange 0x08 0x00000FFFFFFF#48 = true ∧ itemInRange 0x08 0x000010000000#48 = false ∧
      itemInRange 0x09 0x000000010000#48 = true ∧ itemInRange 0x09 0x000000010001#48 = false ∧
      itemInRange 0x0A 0x01FF00000000#48 = true ∧ itemInRange 0x0A 0x010000000000#48 = false ∧
      itemInRange 0x0B 0x010000000000#48 = true ∧ itemInRange 0x0C 0x020000000000#48 = false ∧
      itemInRange 0x0D 0x000000001000#48 = true ∧ itemInRange 0x0D 0x000000000000#48 = false ∧
      itemInRange 0x0E 0x00000000FFFF#48 = true ∧ itemInRange 0x0E 0x000000010000#48 = false ∧
      itemInRange 0x0F 0x030000000000#48 = true ∧ itemInRange 0x13 0x040000000000#48 = false ∧
      itemInRange 0x14 0x000000000000#48 = false := by decide

theorem witness_GuardedLinesHaveTheirOwnMapEntries :
    validateSetup goodSetup = none ∧
      findWindow (lineOf 0x100000#40) 0 (loadWindows goodSetup).windows = some (0, 0) ∧
      findWindow (lineOf 0x100FFF#40) 0 (loadWindows goodSetup).windows = some (0, 63) := by decide +kernel

theorem witness_ClassFollowsTable22 :
    classify .active active.win { readOf 0 0x38#40 with length := 2 } = .malformed ∧
      classify .setup active.win (readOf 0 0x100000#40) = .plain ∧
      classify .failed active.win (readOf 0 0x100FC0#40) = .guarded 0 63 ∧
      classify .active active.win (readOf 0 0x201FC0#40) = .loghit ∧
      classify .active active.win (readOf 0 0x202000#40) = .plain := by decide

/-- A state of `active` with work on every side, and a command in its queue. -/
def busy : State := { logBusy capturing with pending := [.preImageResponse 0#4 .err] }

theorem witness_StepKeepsOneRequestPerLine : busy.lineOrder = true ∧ (stepped busy).isSome = true := by decide +kernel

theorem witness_StepLeavesNoGrantUndone : busy.arbiterDone = true ∧ (stepped busy).isSome = true := by decide +kernel

theorem witness_StepLeavesNoTurnUnused :
    busy.tableOk = true ∧ busy.upstreamDone = true ∧ (stepped busy).isSome = true := by decide +kernel

theorem witness_StepKeepsTransactionTable : busy.tableOk = true ∧ (stepped busy).isSome = true := by decide +kernel

theorem witness_StepKeepsFrameStack : busy.stackOk = true ∧ (stepped busy).isSome = true := by decide +kernel

theorem witness_StepKeepsModeDiscipline : busy.modeOk = true ∧ (stepped busy).isSome = true := by decide +kernel

theorem witness_StepKeepsBoundedBlocks :
    busy.captureLogOk = true ∧ busy.eventsOk = true ∧ busy.setupOk = true ∧ busy.linkOk = true ∧
      (receiving busy).linkOk = true ∧ (stepped busy).isSome = true := by
  decide +kernel

theorem witness_OperatingStateChangesOnlyByTable91 :
    active.mode.state ≠ .setup ∧ (after (.hardReset .rstLow) active).map (·.mode.state) = some .setup := by decide +kernel

theorem witness_LayoutAndMapChangeOnlyAtTheirEvents :
    (after .sweepClear
      { active with
        cap.sweep := { inFlight := true, position := 0 }
        cap.map := { written := [(0, 1#16)], knownBelow := 32768, powerUp := 0 } }).map (fun t => t.cap.map.read 0) =
      some 0#16 := by decide +kernel

/-! #### The upstream port -/

theorem witness_AcceptedRequestIsIssued_plain :
    active.rstN = true ∧ active.up.presented = none ∧ active.turnsSettled = true ∧ active.up.txns = [] ∧
      classify active.mode.state active.win (readOf 1 0x40#40) = .plain ∧
      (Effect.acceptedAndIssued active (readOf 1 0x40#40) .plain).calm = true := by decide +kernel

theorem witness_AcceptedRequestIsIssued_guarded :
    classify active.mode.state active.win (writeOf 1 0x100000#40) = .guarded 0 0 ∧ active.mode.state ≠ .failed ∧
      active.engine.phase = .idle ∧ active.frames.barrier = none ∧ active.frames.stack = [] ∧
      (Effect.acceptedAndIssued active (writeOf 1 0x100000#40) (.guarded 0 0)).calm = true := by decide +kernel

theorem witness_RequestAnsweredAtOnceOrKeptPresented :
    active.turnsSettled = true ∧ classify active.mode.state active.win (readOf 1 0x200000#40) = .loghit ∧
      (Effect.answeredAtOnce active (readOf 1 0x200000#40) .denied).calm = true ∧
      classify active.mode.state active.win { readOf 1 0#40 with length := 9 } = .malformed ∧
      (Effect.answeredAtOnce active { readOf 1 0#40 with length := 9 } .formerr).calm = true ∧
      classify .failed active.win (readOf 1 0x100000#40) = .guarded 0 0 ∧
      (Effect.answeredAtOnce { active with mode.state := .failed } (readOf 1 0x100000#40) .denied).calm = true := by
  decide +kernel

theorem witness_RequestAnsweredAtOnceOrKeptPresented_kept :
    let s := withEntry active (entryOf 3#5 .issued)
    s.rstN = true ∧ s.up.presented = none ∧ s.turnsSettled = true ∧ (∃ e ∈ s.up.txns, e.tag = (readOf 3 0#40).tag) ∧
      ({ s with up.presented := some (readOf 3 0#40) } : State).calm = true := by decide +kernel

theorem witness_GuardedWriteIsCapturedOrWaits_captured :
    let r := writeOf 3 0x100000#40
    framed.turnsSettled = true ∧ framed.up.txns = [] ∧
      classify framed.mode.state framed.win r = .guarded 0 0 ∧ framed.mode.state ≠ .failed ∧ r.dir = .write ∧
      framed.engine.phase = .idle ∧ framed.frames.barrier = none ∧
      framed.frames.stack.getLast? = some (frameOf 1#16 .intact) ∧ framed.cap.map.read 0 ≠ 1#16 ∧
      framed.cap.waitList = [] ∧ framed.cap.slots.findIdx? Option.isNone = some 0 ∧ framed.log.staging.length < 8 ∧
      framed.logCount < framed.win.capacity ∧
      (Effect.captureGranted (Effect.accepted framed r (.guarded 0 0) .capture)
        (Effect.entry framed r (.guarded 0 0) .capture) 0 (frameOf 1#16 .intact)).calm = true := by decide +kernel

theorem witness_GuardedWriteIsCapturedOrWaits_waits :
    let s : State := { framed with log.tail := 0#32 - 64#32 }
    let r := writeOf 3 0x100000#40
    s.turnsSettled = true ∧ s.up.txns = [] ∧ s.rstN = true ∧ s.up.presented = none ∧
      classify s.mode.state s.win r = .guarded 0 0 ∧ s.win.capacity ≤ s.logCount ∧ s.mode.logPolicy = .wait ∧
      (Effect.waitsForSpace (Effect.accepted s r (.guarded 0 0) .capture) r.tag).calm = true := by decide +kernel

theorem witness_GuardedWriteIsCapturedOrWaits_breaks :
    let s : State := { framed with log.tail := 0#32 - 64#32, mode.logPolicy := .break }
    let r := writeOf 3 0x100000#40
    s.turnsSettled = true ∧ s.up.txns = [] ∧ s.rstN = true ∧ s.up.presented = none ∧
      classify s.mode.state s.win r = .guarded 0 0 ∧ s.frames.stack.getLast? = some (frameOf 1#16 .intact) ∧
      s.cap.map.read 0 ≠ 1#16 ∧ s.cap.slots.findIdx? Option.isNone = some 0 ∧ s.log.staging.length < 8 ∧
      s.win.capacity ≤ s.logCount ∧ s.mode.logPolicy = .break := by decide +kernel

theorem witness_AcceptedRequestIsHeldOrWaitsItsTurn_rollback :
    rolling.rstN = true ∧ rolling.up.presented = none ∧ rolling.turnsSettled = true ∧ rolling.up.txns = [] ∧
      classify rolling.mode.state rolling.win (readOf 1 0x100000#40) = .guarded 0 0 ∧ rolling.engine.phase ≠ .idle ∧
      (Effect.accepted rolling (readOf 1 0x100000#40) (.guarded 0 0) (.held .rollback)).calm = true := by decide +kernel

theorem witness_AcceptedRequestIsHeldOrWaitsItsTurn_barrier :
    let s : State := { framed with frames.barrier := some [9#5] }
    s.rstN = true ∧ s.up.presented = none ∧ s.turnsSettled = true ∧ s.up.txns = [] ∧
      classify s.mode.state s.win (writeOf 1 0x100000#40) = .guarded 0 0 ∧ s.engine.phase = .idle ∧
      s.frames.barrier ≠ none ∧
      (Effect.accepted s (writeOf 1 0x100000#40) (.guarded 0 0) (.held .barrier)).calm = true := by decide +kernel

theorem witness_AcceptedRequestIsHeldOrWaitsItsTurn_turn :
    let s := withEntry framed (entryOf 3#5 .issued)
    s.rstN = true ∧ s.up.presented = none ∧ s.turnsSettled = true ∧ s.up.txns.length < 16 ∧
      (∀ e ∈ s.up.txns, e.tag ≠ 1#5 ∧ e.age < s.up.nextAge) ∧
      classify s.mode.state s.win (readOf 1 0x100000#40) = .guarded 0 0 ∧ s.engine.phase = .idle ∧
      (∃ e ∈ s.up.txns, e.line = lineOf 0x100000#40) ∧
      (Effect.accepted s (readOf 1 0x100000#40) (.guarded 0 0) .waitLine).calm = true := by decide +kernel

theorem witness_PassthroughResponseAnswersTheEntry :
    let e := entryOf 3#5 .issued
    let s := withSlot (withEntry active e) (.txn 3#5) 0x100000#40
    s.rstN = true ∧ s.dslot 0#4 = .outstanding (.txn e.tag) 0x100000#40 false ∧ s.findTxn e.tag = some e ∧
      (Effect.answered (Effect.slotFreed s 0#4) e.tag .ok []).calm = true := by decide +kernel

/-! #### The control port -/

/-- The candidate after the counter 1 is 2, and it is free. -/
theorem witness_OpenPushesAFrame_choice : Effect.Chosen framed 0 2#16 false := by
  unfold Effect.Chosen; decide

theorem witness_OpenPushesAFrame :
    framed.rstN = true ∧ framed.ctl.creq = false ∧ framed.ctl.handshake = .idle ∧ framed.mode.state = .active ∧
      framed.engine.phase = .idle ∧ framed.upstreamCalm = true ∧ framed.heldBy .barrier = [] ∧ framed.up.txns = [] ∧
      framed.frames.stack.length < 8 ∧ framed.frames.held.length ≤ 7 ∧
      ({ Effect.ctlAnswered (Effect.pushed framed 2#16 false .control) .openFrame .done with
        frames.barrier := none } : State).calm = true := by decide +kernel

/-- `framed` with the serial counter at 65535. -/
def atTheLast : State := { framed with frames.counter := 65535#16 }

/-- The serial counter at 65535: the choice wraps to 1, and to 2 where 1 is on the stack (R3). -/
theorem witness_OpenPushesAFrame_wrapping_choice : Effect.Chosen atTheLast 1 2#16 true := by
  unfold Effect.Chosen; decide

theorem witness_OpenPushesAFrame_wraps :
    atTheLast.upstreamCalm = true ∧ atTheLast.cap.sweep.inFlight = false ∧
      ({ Effect.ctlAnswered (Effect.pushed atTheLast 2#16 true .control) .openFrame .done with
        frames.barrier := none } : State).calm = true := by decide +kernel

theorem witness_OpenWaitsOrIsReserved_waits :
    capturing.rstN = true ∧ capturing.ctl.creq = false ∧ capturing.ctl.handshake = .idle ∧
      capturing.mode.state = .active ∧ capturing.engine.phase = .idle ∧
      ({ capturing with
        ctl.creq := true, ctl.handshake := .working .openFrame, frames.barrier := some [3#5] } : State).calm = true := by
  decide +kernel

theorem witness_OpenWaitsOrIsReserved_reserved :
    let s : State := { rolling with ctl.handshake := .idle }
    s.rstN = true ∧ s.ctl.creq = false ∧ s.mode.state = .active ∧ s.engine.phase ≠ .idle ∧
      ({ Effect.ctlAnswered s .openFrame .reserved with ctl.reserved := true } : State).calm = true := by decide +kernel

/-- Eight INTACT frames, with the serials 1 to 8. -/
def full : State :=
  { active with
    frames.stack := (List.range 8).map fun n => frameOf (BitVec.ofNat 16 (n + 1)) .intact
    frames.counter := 8#16
    frames.barrier := some []
    ctl.handshake := .working .openFrame }

theorem witness_BarrierCompletionDecidesTheOpen_choice : Effect.Chosen full 0 9#16 false := by
  unfold Effect.Chosen; decide

theorem witness_BarrierCompletionDecidesTheOpen_depth :
    full.rstN = true ∧ full.frames.barrier = some [] ∧ full.ctl.handshake = .working .openFrame ∧ full.tableOk = true ∧
      full.cap.waitList = [] ∧ full.frames.stack.length = 8 ∧
      (Effect.released (Effect.openDecided full 9#16 false) .barrier).calm = true ∧
      (Effect.openDecided full 9#16 false).ctl.cresp = .depth := by decide +kernel

/-- `full` under FOLD. -/
def folding : State := { full with mode.depthPolicy := .fold }

theorem witness_BarrierCompletionDecidesTheOpen_fold :
    (Effect.released (Effect.openDecided folding 9#16 false) .barrier).calm = true ∧
      (Effect.openDecided folding 9#16 false).ctl.cresp = .done := by decide +kernel

theorem witness_BarrierCompletionDecidesTheOpen_fold_choice : Effect.Chosen folding 0 9#16 false := by
  unfold Effect.Chosen; decide

/-- A choice that would wrap during a sweep. -/
def sweeping : State :=
  { active with
    frames.counter := 65535#16, frames.barrier := some [], ctl.handshake := .working .openFrame
    cap.sweep := { inFlight := true, position := 0 } }

theorem witness_BarrierCompletionDecidesTheOpen_busy :
    (Effect.released (Effect.openDecided sweeping 1#16 true) .barrier).calm = true ∧
      (Effect.openDecided sweeping 1#16 true).ctl.cresp = .busy := by decide +kernel

theorem witness_BarrierCompletionDecidesTheOpen_busy_choice : Effect.Chosen sweeping 0 1#16 true := by
  unfold Effect.Chosen; decide

/-- Two guarded writes of one line, in a stage, with the ages 0 and 1. -/
def twoWrites (stage : Stage) (s : State) : State :=
  { s with up.txns := [entryOf 3#5 stage, { entryOf 4#5 stage with age := 1 }], up.nextAge := 2 }

/-- The older of two held writes of one line is captured, the younger waits for its turn (R34). -/
theorem witness_BarrierCompletionDecidesTheOpen_held :
    let s := twoWrites (.held .barrier) { framed with frames.barrier := some [], ctl.handshake := .working .openFrame }
    s.rstN = true ∧ s.frames.barrier = some [] ∧ s.ctl.handshake = .working .openFrame ∧ s.tableOk = true ∧
      s.cap.waitList = [] ∧ s.frames.stack.length ≤ 8 ∧ s.heldBy .barrier = [3#5, 4#5] ∧
      (Effect.released (Effect.openDecided s 2#16 false) .barrier).up.txns.map Txn.stage = [.capture, .waitLine] := by
  decide +kernel

theorem witness_FoldJoinsTheTwoBottomFrames :
    let b := frameOf 1#16 .broken
    let a := frameOf 2#16 .intact
    let g := frameOf 3#16 .intact
    ({ active with frames.stack := [b, a, g] } : State).frames.stack = b :: a :: g :: [] ∧ b.status = .broken ∧
      a.status = .intact ∧ (frameOf 1#16 .intact).status = .intact := by decide

theorem witness_CommitRemovesTheTopFrame_at_depth_1 :
    let s := logged .pending
    s.rstN = true ∧ s.ctl.creq = false ∧ s.ctl.handshake = .idle ∧ s.mode.state = .active ∧ s.engine.phase = .idle ∧
      s.frames.stack = [] ++ [frameOf 1#16 .intact] ∧ s.cap.waitList = [] ∧
      (Effect.rejudged (Effect.committed s [] (frameOf 1#16 .intact))).calm = true := by decide +kernel

theorem witness_CommitRemovesTheTopFrame_onto_broken :
    let s : State := { logged .pending with frames.stack := [frameOf 1#16 .broken, frameOf 2#16 .intact] }
    s.frames.stack = [frameOf 1#16 .broken] ++ [frameOf 2#16 .intact] ∧ s.cap.waitList = [] ∧
      (Effect.rejudged (Effect.committed s [frameOf 1#16 .broken] (frameOf 2#16 .intact))).calm = true := by decide +kernel

/-- A full log under WAIT, with two frames, and three waiting writes. The map entry of the second holds serial 1. -/
def waitingThree : State :=
  { framed with
    frames.stack := [{ frameOf 1#16 .intact with start := 0#32 - 64#32 }, frameOf 2#16 .intact]
    log.tail := 0#32 - 64#32
    log.hold := { running := true, value := 5 }
    cap.waitList := [3#5, 4#5, 5#5]
    cap.map := { written := [(1, 1#16)], knownBelow := 32768, powerUp := 0 }
    up.txns := [entryOf 3#5 .capture,
                { entryOf 4#5 .capture with cls := .guarded 0 1, addr := 0x100040#40, line := 0x100040#40, age := 1 },
                { entryOf 5#5 .capture with cls := .guarded 0 2, addr := 0x100080#40, line := 0x100080#40, age := 2 }]
    up.nextAge := 3 }

/-- A COMMIT that merges issues the write that the new top has captured; the others wait on, and the hold timer runs on (R43,
R79). -/
theorem witness_CommitRemovesTheTopFrame_merge_while_waiting :
    let s := waitingThree
    let u := Effect.rejudged (Effect.committed s [{ frameOf 1#16 .intact with start := 0#32 - 64#32 }] (frameOf 2#16 .intact))
    s.rstN = true ∧ s.ctl.creq = false ∧ s.ctl.handshake = .idle ∧ s.mode.state = .active ∧ s.engine.phase = .idle ∧
      s.frames.stack = [{ frameOf 1#16 .intact with start := 0#32 - 64#32 }] ++ [frameOf 2#16 .intact] ∧
      s.mode.logPolicy = .wait ∧ u.calm = true ∧ u.cap.waitList = [3#5, 5#5] ∧
      u.up.txns.map Txn.stage = [.capture, .issued, .capture] ∧ u.log.hold = { running := true, value := 5 } := by
  decide +kernel

theorem witness_CommitRemovesTheTopFrame_waiting :
    waiting.rstN = true ∧ waiting.ctl.creq = false ∧ waiting.ctl.handshake = .idle ∧ waiting.mode.state = .active ∧
      waiting.engine.phase = .idle ∧ waiting.frames.stack = [] ++ [frameOf 1#16 .intact] ∧
      waiting.frames.barrier = none ∧ waiting.cap.waitList = [3#5] ∧ (waiting.findTxn 3#5).isSome = true := by
  decide +kernel

theorem witness_ControlRequestsRefusedAtTheTaking :
    State.reset.rstN = true ∧ State.reset.ctl.creq = false ∧ State.reset.ctl.handshake = .idle ∧
      State.reset.mode.state ≠ .active ∧ (Effect.ctlAnswered State.reset .openFrame .offline).calm = true ∧
      active.engine.phase = .idle ∧ active.frames.stack = [] ∧ (Effect.ctlAnswered active .abort .noFrame).calm = true ∧
      rolling.engine.phase ≠ .idle ∧
      (Effect.ctlAnswered { rolling with ctl.handshake := .idle } .commit .busy).calm = true := by decide +kernel

/-- `framed` with the guarded write 3 issued, so that a rollback has something to wait for. -/
def issuing : State := withSlot (withEntry framed (entryOf 3#5 .issued)) (.txn 3#5) 0x100000#40

theorem witness_ControlAbortStartsOrOvertakes_starts :
    issuing.rstN = true ∧ issuing.ctl.creq = false ∧ issuing.ctl.handshake = .idle ∧ issuing.mode.state = .active ∧
      issuing.engine.phase = .idle ∧ issuing.frames.stack ≠ [] ∧ (issuing.up.txns.map Txn.tag).Nodup ∧
      issuing.frames.barrier = none ∧
      (Effect.rollbackStarted { issuing with ctl.creq := true, ctl.handshake := .working .abort } false .rollback).calm =
        true := by decide +kernel

/-- A BROKEN top, with a guarded write held behind an issued one by a barrier whose OPEN waits. -/
def brokenTop : State :=
  { framed with
    frames.stack := [frameOf 1#16 .broken]
    frames.barrier := some [9#5]
    ctl.handshake := .working .openFrame
    up.txns := [entryOf 3#5 .issued, { entryOf 4#5 (.held .barrier) with age := 1 },
                { entryOf 5#5 (.held .barrier) with age := 2, line := 0x100040#40 }]
    up.nextAge := 3
    flt.deadline := { running := true, value := 0 } }

theorem witness_ControlAbortStartsOrOvertakes_overtakes :
    let s : State := { rolling with ctl.handshake := .idle }
    s.rstN = true ∧ s.ctl.creq = false ∧ s.mode.state = .active ∧ s.engine.phase ≠ .idle ∧ s.engine.target = some 0 ∧
      ({ s with ctl.creq := true, ctl.handshake := .working .abort, engine.target := some (0 - 1),
                engine.owed := .noFrame } : State).calm = true := by decide +kernel

theorem witness_RollbackStartAbsorbsUnissuedEntries :
    waiting.topIntact = true ∧ (waiting.up.txns.map Txn.tag).Nodup ∧ waiting.frames.barrier = none ∧
      waiting.unissuedGuarded ≠ [] := by decide +kernel

/-- Under a BROKEN top the held writes are released, one issued and one behind its line, and the OPEN is RESERVED (R87, R12). -/
theorem witness_RollbackStartAbsorbsUnissuedEntries_broken :
    let t := Effect.rollbackStarted brokenTop false .none
    brokenTop.topIntact = false ∧ (brokenTop.up.txns.map Txn.tag).Nodup ∧ brokenTop.frames.barrier ≠ none ∧
      brokenTop.ctl.handshake = .working .openFrame ∧ t.up.txns.map Txn.stage = [.issued, .waitLine, .issued] ∧
      t.engine.quiesce = [3#5, 4#5, 5#5] ∧ t.ctl.cresp = .reserved ∧ t.ctl.reserved = true ∧ t.obs.responses = [] := by
  decide +kernel

theorem witness_HandshakeFollowsItsPhases :
    let answered : State := { active with ctl.handshake := .answered .commit }
    active.rstN = true ∧ answered.ctl.creq = false ∧ answered.ctl.handshake ≠ .idle ∧
      ({ answered with ctl.creq := true } : State).ctl.creq = true ∧
      ({ rolling with ctl.creq := true } : State).ctl.handshake = .working .abort := by decide

/-! #### Faults, ticks and reset -/

theorem witness_FaultLinesLatchAndNote :
    let s : State := { active with flt.latches.flt0 := true }
    s.rstN = true ∧ s.flt.latches.get .flt0 = true ∧ s.flt.actions.ofLine .flt0 = .note ∧
      (Effect.faultPosted { s with flt.latches := s.flt.latches.put .flt0 false } (.line .flt0) .note).calm = true ∧
      ({ s with rstN := false } : State).rstN = false := by decide +kernel

theorem witness_AbortFaultsReachTheRollbackEngine_empty :
    let s : State := { active with flt.latches.flt0 := true, flt.actions.flt0 := .abort }
    let v : State := { s with flt.latches := s.flt.latches.put .flt0 false }
    s.rstN = true ∧ s.mode.state = .active ∧ s.flt.latches.get .flt0 = true ∧ s.flt.actions.ofLine .flt0 = .abort ∧
      s.engine.phase = .idle ∧ s.frames.stack = [] ∧ (Effect.faultPosted v (.line .flt0) .abort).calm = true := by
  decide +kernel

theorem witness_AbortFaultsReachTheRollbackEngine_overtakes :
    let s := receiving rolling
    let v : State := { s with link.frame := .answered [0x00#8] false 0 }
    s.mode.state = .active ∧ s.ready (.forceAbort 0x01#8) = true ∧ s.engine.phase ≠ .idle ∧ s.engine.target = some 0 ∧
      ({ Effect.faultPosted v .supervisor .abortAll with engine.target := some 0 } : State).calm = true := by
  decide +kernel

theorem witness_AbortFaultsReachTheRollbackEngine_starts :
    let s := receiving issuing
    let v : State := { s with link.frame := .answered [0x00#8] false 0 }
    s.mode.state = .active ∧ s.ready (.forceAbort 0x00#8) = true ∧ s.engine.phase = .idle ∧ s.frames.stack ≠ [] ∧
      (s.up.txns.map Txn.tag).Nodup ∧ s.frames.barrier = none ∧
      (Effect.rollbackStarted (Effect.faultPosted v .supervisor .abort) false .none).calm = true := by decide +kernel

theorem witness_AbortFaultsReachTheRollbackEngine_broken_top :
    let s := receiving brokenTop
    let v : State := { s with link.frame := .answered [0x00#8] false 0 }
    s.mode.state = .active ∧ s.ready (.forceAbort 0x00#8) = true ∧ s.engine.phase = .idle ∧ s.frames.stack ≠ [] ∧
      (s.up.txns.map Txn.tag).Nodup ∧ s.frames.barrier ≠ none ∧ s.ctl.handshake = .working .openFrame ∧
      (Effect.rollbackStarted (Effect.faultPosted v .supervisor .abort) false .none).calm = true := by decide +kernel

theorem witness_PulsesMakeTicks_pulse :
    let s : State := { active with flt.divisor := 2 }
    s.rstN = true ∧ s.flt.pulses + 1 < s.flt.divisor ∧ ({ s with flt.pulses := s.flt.pulses + 1 } : State).calm = true := by
  decide +kernel

theorem witness_PulsesMakeTicks_tick :
    let s : State := { active with log.hold := { running := true, value := 14 } }
    s.flt.divisor = s.flt.pulses + 1 ∧ s.log.hold.value + 1 < s.mode.holdLimit ∧ s.flt.deadline.running = false ∧
      (Effect.ticked s).calm = true ∧
      ({ Effect.ticked { s with flt.deadline := { running := true, value := 2 } } with flt.deadline.value := 1 } : State).calm =
        true := by decide +kernel

/-- The tick that expires the deadline with an abort action: a rollback starts, or one in flight is overtaken, or FAULT_TAKEN
alone is posted on an empty stack. -/
theorem witness_PulsesMakeTicks_abort :
    let at1 := fun (s : State) =>
      ({ s with flt.deadline := { running := true, value := 1 }, flt.actions.deadline := .abortAll } : State)
    let w := fun (s : State) => Effect.faultPosted (Effect.deadlineStopped (Effect.ticked (at1 s))) .deadline .abortAll
    let s := at1 issuing
    s.rstN = true ∧ s.flt.divisor = s.flt.pulses + 1 ∧ s.log.hold.running = false ∧ s.mode.state = .active ∧
      (w issuing).engine.phase = .idle ∧ (w issuing).frames.stack ≠ [] ∧ ((w issuing).up.txns.map Txn.tag).Nodup ∧
      (w issuing).frames.barrier = none ∧ (Effect.rollbackStarted (w issuing) true .none).calm = true ∧
      (w rolling).engine.phase ≠ .idle ∧ (w rolling).engine.target = some 0 ∧ (w rolling).calm = true ∧
      (w active).engine.phase = .idle ∧ (w active).frames.stack = [] ∧ (w active).calm = true := by decide +kernel

theorem witness_PulsesMakeTicks_deadline :
    let s : State := { active with flt.deadline := { running := true, value := 1 } }
    s.rstN = true ∧ s.flt.divisor = s.flt.pulses + 1 ∧ s.log.hold.running = false ∧ s.mode.state = .active ∧
      s.flt.actions.deadline = .note ∧
      (Effect.faultPosted (Effect.deadlineStopped (Effect.ticked s)) .deadline .note).calm = true := by decide +kernel

theorem witness_DeadlineExpiryRaisesItsSource :
    let s : State := { issuing with flt.deadline := { running := true, value := 0 } }
    let v := Effect.deadlineStopped s
    s.rstN = true ∧ s.mode.state = .active ∧ v.calm = true ∧ (Effect.faultPosted v .deadline .note).calm = true ∧
      s.engine.phase = .idle ∧ s.frames.stack ≠ [] ∧ (s.up.txns.map Txn.tag).Nodup ∧ s.frames.barrier = none ∧
      (Effect.rollbackStarted (Effect.faultPosted v .deadline .abortAll) true .none).calm = true := by decide +kernel

/-- An abort action with a rollback in flight, and with no frame on the stack. -/
theorem witness_DeadlineExpiryRaisesItsSource_no_start :
    let expired := fun (s : State) =>
      ({ s with flt.deadline := { running := true, value := 0 }, flt.actions.deadline := .abort } : State)
    let w := fun (s : State) => Effect.faultPosted (Effect.deadlineStopped (expired s)) .deadline .abort
    (w rolling).engine.phase ≠ .idle ∧ (w rolling).engine.target = some 0 ∧ (w rolling).calm = true ∧
      (w active).engine.phase = .idle ∧ (w active).frames.stack = [] ∧ (w active).calm = true := by decide +kernel

theorem witness_DeadlineExpiryRaisesItsSource_broken_top :
    brokenTop.rstN = true ∧ brokenTop.flt.deadline = { running := true, value := 0 } ∧ brokenTop.engine.phase = .idle ∧
      (Effect.rollbackStarted (Effect.faultPosted (Effect.deadlineStopped brokenTop) .deadline .abort) false .none).calm =
        true := by decide +kernel

theorem witness_BreakFallsOnTheLowestIntactFrame :
    let s : State := { active with frames.stack := [frameOf 1#16 .broken, frameOf 2#16 .intact, frameOf 3#16 .intact] }
    s.frames.stack = [frameOf 1#16 .broken] ++ frameOf 2#16 .intact :: [frameOf 3#16 .intact] ∧
      waiting.frames.stack = [] ++ frameOf 1#16 .intact :: [] ∧ waiting.cap.waitList = [3#5] ∧
      (waiting.findTxn 3#5).isSome = true := by decide +kernel

/-- The lower of two INTACT frames holds the 64 records of a full log, and the write 3 waits. -/
def holding (value : Nat) : State :=
  { waiting with
    frames.stack := [{ frameOf 1#16 .intact with start := 0#32 - 64#32 }, frameOf 2#16 .intact]
    log.tail := 0#32 - 64#32
    log.hold := { running := true, value := value } }

theorem witness_HoldExpiryBreaksAndGrants :
    let s := holding 16
    let b := Effect.holdBroken s
    s.rstN = true ∧ s.log.hold.running = true ∧ s.cap.waitList = [3#5] ∧ (s.findTxn 3#5).isSome = true ∧
      s.mode.holdLimit ≤ s.log.hold.value ∧ b.cap.waitList = [3#5] ∧ b.canAsk = true ∧ b.logCount < s.win.capacity ∧
      b.grantOldest.calm = true := by decide +kernel

/-- The break falls on the top, with one frame; it frees nothing where the lower frame has no records and the log stays full;
and the write cannot ask where no capture slot is FREE. -/
theorem witness_HoldExpiryBreaksAndGrants_breaks :
    let top : State := { holding 16 with frames.stack := [frameOf 2#16 .intact] }
    let none' : State :=
      { holding 16 with
        frames.stack := [{ frameOf 1#16 .intact with start := 0#32 - 64#32 },
                         { frameOf 2#16 .intact with start := 0#32 - 64#32 }, frameOf 3#16 .intact] }
    let b := Effect.holdBroken none'
    let slot : CaptureSlot :=
      { write := none, seq := 0#32, serial := 2#16, line := 0x100040#40, mapIndex := 1, abandoned := false }
    let taken : State := { holding 16 with cap.slots := List.replicate 4 (some slot) }
    (Effect.holdBroken top).cap.waitList = [] ∧ (Effect.holdBroken top).calm = true ∧
      b.cap.waitList = [3#5] ∧ b.canAsk = true ∧ none'.win.capacity ≤ b.logCount ∧
      (Effect.holdBroken taken).cap.waitList = [3#5] ∧ (Effect.holdBroken taken).canAsk = false ∧
      (Effect.holdBroken taken).calm = true := by decide +kernel

/-- One tick expires both timers (R123). -/
theorem witness_HoldExpiryBreaksAndGrants_both_timers :
    let s : State := { holding 15 with flt.deadline := { running := true, value := 1 } }
    let b := Effect.holdBroken { s with flt.pulses := 0, flt.ticks := s.flt.ticks + 1 }
    s.flt.divisor = s.flt.pulses + 1 ∧ s.mode.holdLimit = s.log.hold.value + 1 ∧ b.cap.waitList = [3#5] ∧ b.canAsk = true ∧
      b.logCount < s.win.capacity ∧ b.grantOldest.flt.deadline = { running := true, value := 1 } := by decide +kernel

theorem witness_HoldExpiryBreaksAndGrants_tick :
    let s := holding 15
    let b := Effect.holdBroken { s with flt.pulses := 0, flt.ticks := s.flt.ticks + 1 }
    s.flt.divisor = s.flt.pulses + 1 ∧ s.mode.holdLimit = s.log.hold.value + 1 ∧ s.flt.deadline.running = false ∧
      b.cap.waitList = [3#5] ∧ b.canAsk = true ∧ b.logCount < s.win.capacity ∧ b.grantOldest.calm = true := by
  decide +kernel

theorem witness_HardResetEndsEverything :
    let s : State := { active with rstN := false }
    (ResetCause.powerUp = .powerUp → s.rstN = false) ∧ ({ s with rstN := true } : State).calm = true ∧
      (withSlot s .writeBack 0#40).down.slots[0]? = some (.outstanding .writeBack 0#40 false) ∧
      (withSlot s .writeBack 0#40).down.slots[15]? = some .free := by decide +kernel

theorem witness_SweepClearsOneEntry :
    State.reset.rstN = true ∧ State.reset.cap.sweep.inFlight = true ∧ State.reset.cap.sweep.position < 32767 ∧
      ({ active with cap.sweep := { inFlight := true, position := 32767 } } : State).cap.sweep.position = 32767 := by
  decide

/-! #### The management link -/

/-- A setup table from window items 0 and 1, a log base and a capacity; the other windows are disabled. -/
def setupOf (w0 w1 base capacity : ItemValue) : State :=
  receiving
    { State.reset with mode.setup := (((setupDefaults.set 0 w0).set 1 w1).set 8 base).set 9 capacity }

/-- Each check of R139 in its order, failed by a table that passes those before it, and one table that passes them all. -/
theorem witness_LeaveSetupReportsTheFirstFailedCheck :
    let detail := fun s => (after .leaveSetup s).map (·.link.frame)
    detail (setupOf 0x000100000100#48 0x000100000000#48 0#48 64#48) = some (.answered [0x06#8, 0x01#8] false 0) ∧
      detail (setupOf 0x80020FFFFFFF#48 0x000100000000#48 0#48 64#48) = some (.answered [0x06#8, 0x02#8] false 0) ∧
      detail (setupOf 0x800200000100#48 0x800100000101#48 0#48 64#48) = some (.answered [0x06#8, 0x03#8] false 0) ∧
      detail (setupOf 0x820000000100#48 0x800100000000#48 0#48 64#48) = some (.answered [0x06#8, 0x04#8] false 0) ∧
      detail (setupOf 0x800100000100#48 0x000100000000#48 0#48 63#48) = some (.answered [0x06#8, 0x05#8] false 0) ∧
      detail (setupOf 0x800100000100#48 0x000100000000#48 0x00000FFFFFFF#48 64#48) =
        some (.answered [0x06#8, 0x02#8] false 0) ∧
      detail (setupOf 0x800100000101#48 0x000100000000#48 0x000000000100#48 64#48) =
        some (.answered [0x06#8, 0x06#8] false 0) ∧
      detail (setupOf 0x800100000102#48 0x000100000000#48 0x000000000100#48 64#48) =
        some (.answered [0x00#8] false 0) := by decide +kernel

theorem witness_LeaveSetupBringsTheTableIntoForce :
    let s := receiving { State.reset with mode.setup := goodSetup }
    s.ready .leaveSetup = true ∧ s.mode.state = .setup ∧ validateSetup s.mode.setup = none ∧
      (Effect.setupLeft s).calm = true ∧ (receiving active).mode.state ≠ .setup := by decide +kernel

theorem witness_EnterSetupAndRecoverEmptyTheStack :
    let failed := receiving { framed with mode.state := .failed }
    (receiving active).ready .enterSetup = true ∧ active.mode.state = .active ∧ active.frames.stack = [] ∧
      active.engine.phase = .idle ∧ active.frames.barrier = none ∧ framed.frames.stack ≠ [] ∧
      (receiving State.reset).ready .enterSetup = true ∧ (receiving State.reset).ready .recover = true ∧
      State.reset.mode.state = .setup ∧ failed.ready .enterSetup = true ∧ failed.ready .recover = true ∧
      (Effect.recovered failed).calm = true := by decide +kernel

/-- The command in the middle of its frame, and at its first and its last bit. -/
theorem witness_FramesAreReceivedBitByBit :
    let f : List Byte := [0x09#8, 0x01#8]
    (Instr.forceAbort 0x01#8).wf = true ∧ encodeFrame (.forceAbort 0x01#8) = some f ∧ 0 < 8 * f.length ∧
      7 + 1 < 8 * f.length ∧ 15 + 1 = 8 * f.length ∧ active.rstN = true ∧ active.pending = [] := by decide

theorem witness_StatusAndFrameReadReportTheState :
    (receiving framed).ready .status = true ∧ (receiving framed).ready (.frameRead 0x00#8) = true ∧
      (receiving framed).ready (.frameRead 0x01#8) = true ∧ framed.frames.stack.length ≤ 8 ∧
      (framed.log.head - framed.log.tail).toNat ≤ 65536 ∧
      framed.frames.stack[(0x00#8 : Byte).toNat]? = some (frameOf 1#16 .intact) ∧
      framed.frames.stack.length ≤ (0x01#8 : Byte).toNat := by decide

theorem witness_EventPopRemovesWhenShiftedOut :
    let e : EventRecord := { body := .sweepDone, stamp := 0, depth := 0, serial := 0 }
    let s : State := { receiving active with link.events := [e] }
    s.rstN = true ∧ s.ready .eventPop = true ∧ (receiving active).ready .eventPop = true ∧ s.link.events = e :: [] ∧
      (receiving active).link.events = [] ∧
      s.link.csN = false := by decide

/-- A record of fourteen bytes, with one bit still to go, and with none yet sent, in a frame that the link can hold. -/
theorem witness_EventPopRemovesWhenShiftedOut_last_bit :
    let e : EventRecord := { body := .sweepDone, stamp := 0, depth := 0, serial := 0 }
    let d : List Byte := 0x00#8 :: 0x0C#8 :: List.replicate 12 0#8
    let sent := fun n : Nat => ({ receiving active with link.events := [e], link.frame := .answered d true n } : State)
    (sent 111).rstN = true ∧ (sent 111).link.events = e :: [] ∧ 111 + 1 = 8 * d.length ∧ (sent 111).linkOk = true ∧
      (sent 0).linkOk = true ∧ (sent 111).link.csN = false := by decide

theorem witness_LinkCommandsTestStateItemAndValue :
    let s := receiving State.reset
    let t := receiving active
    s.ready (.setupWrite 0x14#8 0#48) = true ∧ s.ready (.setupWrite 0x13#8 0x040000000000#48) = true ∧
      s.ready (.setupWrite 0x13#8 0x030000000000#48) = true ∧ s.ready (.setupRead 0x13#8) = true ∧
      s.ready (.setupRead 0x14#8) = true ∧ s.mode.setup.length = 20 ∧ s.mode.state = .setup ∧
      t.ready (.setupWrite 0x13#8 0#48) = true ∧ t.mode.state = .active ∧ t.mode.setup.length = 20 ∧
      20 ≤ (0x14#8 : Byte).toNat ∧ (0x13#8 : Byte).toNat < 20 ∧ itemInRange 0x13 0x040000000000#48 = false ∧
      itemInRange 0x13 0x030000000000#48 = true ∧ s.ready (.forceAbort 0x00#8) = true ∧
      t.ready (.forceAbort 0x02#8) = true ∧ 1 < (0x02#8 : Byte).toNat ∧ s.ready (.unknownCommand 0x00#8) = true ∧
      s.ready (.unknownCommand 0x0A#8) = true ∧ 9 < (0x0A#8 : Byte).toNat := by decide

theorem witness_LinkFramesBeginAndEndWithCsN :
    active.link.csN = true ∧ active.rstN = true ∧ ({ active with rstN := false } : State).rstN = false ∧
      (receiving active).link.csN = false ∧ (receiving active).pending = [] ∧
      ({ receiving active with link.frame := .absent } : State).link.frame = .absent ∧
      ({ receiving active with link.frame := .answered [0x05#8] true 7 } : State).link.frame = .answered [0x05#8] true 7 := by
  decide

/-! #### Captures and the log -/

/-- The slot that `capturing` holds. -/
def slotOfWrite : CaptureSlot :=
  { write := some 3#5, seq := 0#32, serial := 1#16, line := 0x100000#40, mapIndex := 0, abandoned := false }

/-- `capturing` with another content of its capture slot. -/
def capturingWith (c : CaptureSlot) : State := { capturing with cap.slots := [some c, none, none, none] }

/-- A state whose log writer is busy, so that no record write can start. -/
def writing (answers : Nat) (attempt : Attempt) (orphaned : Bool) (s : State) : State :=
  { s with
    log.writer := some { seq := 0#32, attempt := attempt, orphaned := orphaned, answers := answers, anyErr := false } }

theorem witness_PreImageResponseCompletesTheCapture :
    let s := writing 0 .first true capturing
    let v := Effect.captureEnded s 0#4 0
    let e := entryOf 3#5 .capture
    s.rstN = true ∧ s.dslot 0#4 = .outstanding (.slot 0) 0x100000#40 false ∧
      s.cap.slots.getD 0 none = some slotOfWrite ∧ slotOfWrite.write = some e.tag ∧ s.findTxn e.tag = some e ∧
      (∃ r ∈ s.log.staging, r.seq = slotOfWrite.seq ∧ r.content = .pending) ∧
      (Effect.issued (Effect.recordMade v slotOfWrite image) e).calm = true ∧
      (Effect.posted (Effect.answered (Effect.recordVoid v slotOfWrite) e.tag .memerr []) (.captureError 0x100000#40)
        1#16).calm = true := by decide +kernel

/-- The completed record is the READY front of the queue and the writer is idle, so a record write starts too (R69). -/
theorem witness_PreImageResponseCompletesTheCapture_starts_the_writer :
    let u := Effect.issued (Effect.recordMade (Effect.captureEnded capturing 0#4 0) slotOfWrite image) (entryOf 3#5 .capture)
    capturing.rstN = true ∧ capturing.dslot 0#4 = .outstanding (.slot 0) 0x100000#40 false ∧
      capturing.cap.slots.getD 0 none = some slotOfWrite ∧ capturing.findTxn 3#5 = some (entryOf 3#5 .capture) ∧
      (∃ r ∈ capturing.log.staging, r.seq = slotOfWrite.seq ∧ r.content = .pending) ∧ u.calm = false ∧
      u.writerFront = some (recordOf (.image image)) := by decide +kernel

theorem witness_PreImageResponseWithoutWriteOrRecord :
    let gone : CaptureSlot := { slotOfWrite with write := none }
    let left : CaptureSlot := { slotOfWrite with write := none, abandoned := true }
    let at' := fun (c : CaptureSlot) => Effect.captureEnded (writing 0 .first true (capturingWith c)) 0#4 0
    let bare := fun (s : State) => ({ s with log.staging := [] } : State)
    (at' left).calm = true ∧ (Effect.recordMade (at' gone) gone image).calm = true ∧
      (Effect.posted (Effect.recordVoid (at' gone) gone) (.captureError 0x100000#40) 1#16).calm = true ∧
      (bare (at' gone)).calm = true ∧
      (Effect.posted (bare (at' gone)) (.captureError 0x100000#40) 1#16).calm = true ∧
      (Effect.issued (bare (at' slotOfWrite)) (entryOf 3#5 .capture)).calm = true ∧
      (Effect.posted (Effect.answered (bare (at' slotOfWrite)) 3#5 .memerr []) (.captureError 0x100000#40) 1#16).calm =
        true := by decide +kernel

theorem witness_CaptureGrantReservesTheHead :
    let e := entryOf 3#5 .capture
    waiting.rstN = true ∧ waiting.engine.phase = .idle ∧
      waiting.frames.stack.getLast? = some (frameOf 1#16 .intact) ∧ waiting.cap.waitList = [e.tag] ∧
      waiting.findTxn e.tag = some e ∧ waiting.cap.slots.findIdx? Option.isNone = some 0 ∧
      waiting.log.staging.length < 8 ∧ waiting.logCount < waiting.win.capacity ∧
      (Effect.captureGranted waiting e 0 (frameOf 1#16 .intact)).calm = true := by decide +kernel

/-- `waiting` with a full log, under a policy. -/
def fullLog (p : LogPolicy) : State := { waiting with log.tail := 0#32 - 64#32, mode.logPolicy := p }

/-- A full log: the write waits; the break of the top ends its wait; the break of a lower frame frees space for it. -/
theorem witness_CaptureGrantReservesTheHead_full :
    let lower : State := { holding 0 with mode.logPolicy := .break, log.hold := { running := false, value := 0 } }
    (fullLog .wait).win.capacity ≤ (fullLog .wait).logCount ∧
      ({ fullLog .wait with log.hold := { running := true, value := 0 } } : State).calm = true ∧
      ((fullLog .break).breakLowest .logFull).cap.waitList = [] ∧ ((fullLog .break).breakLowest .logFull).calm = true ∧
      lower.engine.phase = .idle ∧ lower.frames.stack.getLast? = some (frameOf 2#16 .intact) ∧
      lower.win.capacity ≤ lower.logCount ∧ (lower.breakLowest .logFull).cap.waitList = [3#5] := by decide +kernel

/-- `logged` with a log write outstanding in downstream slot 0. -/
def storing (answers : Nat) (attempt : Attempt) (orphaned : Bool) : State :=
  writing answers attempt orphaned (withSlot (logged .void) .logHeader 0x200000#40)

theorem witness_LogWriterStoresTheFrontRecord :
    let e := recordOf .void
    let s := storing 0 .first false
    let j : WriterJob := { seq := 0#32, attempt := .first, orphaned := false, answers := 0, anyErr := false }
    (logged .void).log.staging = e :: [] ∧ (logged .void).log.writer = none ∧ (logged .void).mode.state = .active ∧
      e.content ≠ .pending ∧ (Effect.attempt (logged .void) e .first).calm = true ∧
      s.dslot 0#4 = .outstanding .logHeader 0x200000#40 false ∧ s.log.writer = some j ∧
      ({ Effect.slotFreed s 0#4 with log.writer := some { j with answers := 1, anyErr := false } } : State).calm = true ∧
      ({ Effect.slotFreed (storing 1 .first false) 0#4 with
        log.writer := none, log.staging := [e].filter (·.seq != e.seq) } : State).calm = true := by decide +kernel

theorem witness_FailedAttemptIsRetriedAndOrphanIgnored :
    let s := storing 1 .first false
    let e := recordOf .void
    let idle : State := { framed with log.staging := [] }
    s.rstN = true ∧ s.dslot 0#4 = .outstanding .logHeader 0x200000#40 false ∧
      s.log.staging.find? (·.seq == 0#32) = some e ∧
      (Effect.attempt (Effect.posted (Effect.slotFreed s 0#4) (.logRetry (Effect.slotOf s 0#32)) 1#16) e .second).calm =
        true ∧
      ({ Effect.slotFreed (writing 1 .first true (withSlot idle .logImage 0x200040#40)) 0#4 with
        log.writer := none } : State).calm = true := by decide +kernel

/-- UNWIND at the write-back of the one record of `framed`, from the log region, in downstream slot 0. -/
def writingBack : State :=
  { withSlot (unwinding { framed with log.head := 1#32 }) .writeBack 0x100000#40 with
    engine.hand := some { seq := 0#32, source := .region, step := .writing } }

theorem witness_FailureEntersFailed :
    writingBack.rstN = true ∧ writingBack.dslot 0#4 = .outstanding .writeBack 0x100000#40 false ∧
      (writingBack.up.txns.map Txn.tag).Nodup ∧ (Effect.failed writingBack 0#4).calm = true := by decide +kernel

/-- Two guarded writes that the rollback holds are answered DENIED, in order of age (R37). -/
theorem witness_FailureEntersFailed_denies :
    let s := twoWrites (.held .rollback) writingBack
    s.rstN = true ∧ s.dslot 0#4 = .outstanding .writeBack 0x100000#40 false ∧ (s.up.txns.map Txn.tag).Nodup ∧
      (Effect.failed s 0#4).calm = true ∧ (Effect.failed s 0#4).up.txns = [] ∧
      (Effect.failed s 0#4).obs.responses =
        [{ tag := 3#5, code := .denied, data := [] }, { tag := 4#5, code := .denied, data := [] }] := by decide +kernel

/-- UNWIND with the answer to the image read of the one record in hand, and the header read in downstream slot 0. -/
def readingHeader (other : LineResponse) : State :=
  { withSlot (unwinding { framed with log.head := 1#32 }) .unwindHeader 0x200000#40 with
    engine.hand := some { seq := 0#32, source := .region, step := .reading none (some other) } }

theorem witness_EveryFailureCauseIsReported_log_write :
    let s := storing 1 .second false
    s.rstN = true ∧ s.dslot 0#4 = .outstanding .logHeader 0x200000#40 false ∧ s.link.events = [] ∧
      (s.log.writer.map (·.attempt)) = some .second ∧ (s.log.staging.find? (·.seq == 0#32)).isSome = true := by
  decide +kernel

theorem witness_EveryFailureCauseIsReported_unwind_read :
    let s := readingHeader .err
    s.rstN = true ∧ s.dslot 0#4 = .outstanding .unwindHeader 0x200000#40 false ∧ s.link.events = [] ∧
      s.engine.hand = some { seq := 0#32, source := .region, step := .reading none (some .err) } := by decide +kernel

set_option maxRecDepth 100000 in
/-- The check of a line of zeros is not 0. -/
theorem witness_EveryFailureCauseIsReported_check : verifyRecord 0#32 0#512 0#512 = .fails .check := by decide +kernel

/-! #### Rollback and the downstream port -/

theorem witness_UnwindStepsTakeTheRecordBelowTheHead_staged :
    let s := unwinding (logged (.image image))
    s.rstN = true ∧ s.engine.phase = .unwind ∧ s.engine.hand = none ∧ s.atStop = false ∧
      s.log.staging.getLast? = some (recordOf (.image image)) ∧
      (Effect.stagedStep s 0#32 0x100000#40 image).calm = true := by decide +kernel

/-- The one record is VOID: the head comes down to the stop point. With an image above it the next step is due. -/
theorem witness_UnwindStepsTakeTheRecordBelowTheHead_void :
    let s := unwinding (logged .void)
    let v : State := { s with log.staging := s.log.staging.dropLast, log.head := s.log.head - 1#32 }
    let s' := unwinding
      { framed with log.head := 2#32, log.staging := [recordOf (.image image), { recordOf .void with seq := 1#32 }] }
    let v' : State := { s' with log.staging := s'.log.staging.dropLast, log.head := s'.log.head - 1#32 }
    s.rstN = true ∧ s.engine.phase = .unwind ∧ s.engine.hand = none ∧ s.atStop = false ∧
      s.log.staging.getLast? = some (recordOf .void) ∧ v.frames.barrier = none ∧ v.up.txns = [] ∧
      v.calmBeforeUnwind = true ∧ v.atStop = true ∧ s'.atStop = false ∧ v'.frames.barrier = none ∧ v'.up.txns = [] ∧
      v'.calmBeforeUnwind = true ∧ v'.atStop = false := by decide +kernel

theorem witness_UnwindStepsTakeTheRecordBelowTheHead_quiesce_end :
    let s : State := { unwinding { framed with log.head := 1#32 } with engine.phase := .quiesce }
    s.rstN = true ∧ s.engine.hand = none ∧ s.quiesceOver = true ∧ s.upstreamCalm = true ∧
      s.frames.barrier ≠ some [] ∧ s.writerFront = none ∧ s.atStop = false ∧ s.log.staging = [] ∧
      (Effect.regionStep s 0#32).calm = true := by decide +kernel

/-- QUIESCE ends with the head at the stop point, and with no stop point, since the frame popped is BROKEN (R97). -/
theorem witness_UnwindStepsTakeTheRecordBelowTheHead_completes :
    let quiescing := fun (s : State) => ({ unwinding s with engine.phase := .quiesce } : State)
    let s := quiescing framed
    let s' := quiescing { framed with frames.stack := [frameOf 1#16 .broken], log.head := 5#32, log.tail := 5#32 }
    s.rstN = true ∧ s.engine.phase = .quiesce ∧ s.engine.hand = none ∧ s.quiesceOver = true ∧ s.upstreamCalm = true ∧
      s.frames.barrier ≠ some [] ∧ s.writerFront = none ∧ s.frames.barrier = none ∧ s.up.txns = [] ∧
      (unwinding framed).calmBeforeUnwind = true ∧ s.stopPoint = some s.log.head ∧ (unwinding framed).atStop = true ∧
      s'.quiesceOver = true ∧ s'.stopPoint = none ∧
      ({ s' with engine.phase := .unwind } : State).calmBeforeUnwind = true ∧
      ({ s' with engine.phase := .unwind } : State).atStop = true := by decide +kernel

theorem witness_UnwindReadsLeadToTheWriteBack_first :
    let h : Hand := { seq := 0#32, source := .region, step := .reading none none }
    let s : State := { readingHeader .err with engine.hand := some h }
    s.rstN = true ∧ s.dslot 0#4 = .outstanding .unwindHeader 0x200000#40 false ∧ s.engine.hand = some h ∧
      ({ Effect.slotFreed s 0#4 with
        engine.hand := some { h with step := .reading (some (.ok image)) none } } : State).calm = true := by decide +kernel

set_option maxRecDepth 100000 in
/-- A record stored by the log writer passes the tests of R95. -/
theorem witness_UnwindReadsLeadToTheWriteBack_verifies :
    verifyRecord 0#32 (headerLine (recordOf (.image image))) image = .image 0x100000#40 image := by decide +kernel

theorem witness_UnwindReadsLeadToTheWriteBack_second :
    let s := readingHeader (.ok image)
    let h : Hand := { seq := 0#32, source := .region, step := .reading none (some (.ok image)) }
    s.engine.hand = some h ∧
      ({ Effect.slotFreed s 0#4 with
        engine.hand := some { h with step := .writing }
        down.waiting := [{ origin := .writeBack, dir := .write, addr := 0x100000#40, length := 8,
                           beats := lineBeats image }] } : State).calm = true := by decide +kernel

set_option maxRecDepth 100000 in
/-- A VOID record stored by the log writer passes the tests of R95 as VOID. -/
theorem witness_UnwindReadsLeadToTheWriteBack_void_verifies :
    verifyRecord 0#32 (headerLine (recordOf .void)) 0#512 = .void := by decide +kernel

theorem witness_UnwindReadsLeadToTheWriteBack_void :
    let s := readingHeader (.ok 0#512)
    let v : State := { Effect.slotFreed s 0#4 with engine.hand := none, log.head := s.log.head - 1#32 }
    s.rstN = true ∧ s.dslot 0#4 = .outstanding .unwindHeader 0x200000#40 false ∧
      s.engine.hand = some { seq := 0#32, source := .region, step := .reading none (some (.ok 0#512)) } ∧
      s.engine.phase = .unwind ∧ v.frames.barrier = none ∧ v.up.txns = [] ∧ v.calmBeforeUnwind = true ∧ v.atStop = true := by
  decide +kernel

theorem witness_WriteBackAppliesTheRecord :
    let s : State := { writingBack with log.head := 2#32 }
    let h : Hand := { seq := 0#32, source := .region, step := .writing }
    let v := Effect.recordApplied s 0#4 h
    s.rstN = true ∧ s.dslot 0#4 = .outstanding .writeBack 0x100000#40 false ∧ s.engine.hand = some h ∧
      s.engine.phase = .unwind ∧ v.calmBeforeUnwind = true ∧ v.atStop = false ∧ v.log.staging = [] ∧
      v.frames.barrier = none ∧ (Effect.regionStep v 0#32).calm = true := by decide +kernel

theorem witness_WriteBackAppliesTheRecord_completes :
    let h : Hand := { seq := 0#32, source := .region, step := .writing }
    let v := Effect.recordApplied writingBack 0#4 h
    writingBack.engine.hand = some h ∧ v.frames.barrier = none ∧ v.up.txns = [] ∧ v.calmBeforeUnwind = true ∧ v.atStop = true := by
  decide +kernel

theorem witness_CompletionPopsTheFrames :
    let s := unwinding framed
    let v := Effect.completed s [] (frameOf 1#16 .intact) []
    s.rstN = true ∧ s.engine.phase = .unwind ∧ s.engine.hand = none ∧ s.engine.target = some ([] : List Frame).length ∧
      s.frames.stack = [] ++ frameOf 1#16 .intact :: [] ∧ s.atStop = true ∧ s.tableOk = true ∧ s.cap.waitList = [] ∧
      s.ctl.reserved = false ∧ (Effect.released v .rollback).calm = true := by decide +kernel

/-- Two writes of one line held by the rollback: with no frame left the older is issued, the younger waits for its turn. -/
theorem witness_CompletionPopsTheFrames_held :
    let s := twoWrites (.held .rollback) (unwinding framed)
    let u := Effect.released (Effect.completed s [] (frameOf 1#16 .intact) []) .rollback
    s.atStop = true ∧ s.tableOk = true ∧ s.cap.waitList = [] ∧ s.heldBy .rollback = [3#5, 4#5] ∧
      u.up.txns.map Txn.stage = [.issued, .waitLine] ∧ u.calm = true := by decide +kernel

/-- The completed state of a rollback with a reservation. -/
def reservedDone (s : State) : State := Effect.completed { s with ctl.reserved := true } [] (frameOf 1#16 .intact) []

theorem witness_CompletionPopsTheFrames_reserved :
    let s : State := { unwinding framed with ctl.reserved := true }
    s.atStop = true ∧ s.ctl.reserved = true ∧
      (Effect.released (Effect.reservationTaken (reservedDone (unwinding framed)) 2#16 false) .rollback).calm = true := by
  decide +kernel

theorem witness_CompletionPopsTheFrames_reserved_choice :
    Effect.Chosen (reservedDone (unwinding framed)) 0 2#16 false := by
  unfold Effect.Chosen; decide

/-- A rollback that ends during a sweep, with the serial counter at 65535. -/
def sweepingEnd : State :=
  unwinding { framed with frames.counter := 65535#16, cap.sweep := { inFlight := true, position := 0 } }

theorem witness_CompletionPopsTheFrames_cancelled_choice : Effect.Chosen (reservedDone sweepingEnd) 0 1#16 true := by
  unfold Effect.Chosen; decide

/-- The choice would wrap during a sweep, so the reservation is cancelled (R9). -/
theorem witness_CompletionPopsTheFrames_cancelled :
    let s := sweepingEnd
    (Effect.reservationTaken (reservedDone s) 1#16 true).link.events.map (·.body) =
      [.rollbackDone false 1 0, .reservationCancelled .sweep] ∧
    (Effect.released (Effect.reservationTaken (reservedDone s) 1#16 true) .rollback).calm = true := by decide +kernel

theorem witness_GrantsFollowThePriorities :
    let w : Waiting := { origin := .slot 0, dir := .read, addr := 0#40, length := 8, beats := [] }
    let s : State := { withSlot active .logHeader 0x200000#40 with down.waiting := [w] }
    s.rstN = true ∧ s.nextGrant = some w ∧ s.down.slots[1]? = some .free ∧ s.down.slots[0]? ≠ some .free ∧
      active.nextGrant = none := by decide +kernel

/-- A write of the host waits: it is issued with its entry's data and strobes, which leave that entry and no other (R23,
R129). -/
theorem witness_GrantsFollowThePriorities_passthrough :
    let e := entryOf 3#5 .issued
    let w := Effect.ownRequest e
    let s : State := { twoWrites .issued active with down.waiting := [w] }
    s.rstN = true ∧ s.nextGrant = some w ∧ s.down.slots[0]? = some .free ∧
      (Effect.granted s w 0).obs.issued.map (·.beats) = [[{ data := 7#64, strobe := 0xFF#8 }]] ∧
      (Effect.granted s w 0).up.txns.map Txn.data = [none, some [{ data := 7#64, strobe := 0xFF#8 }]] := by decide +kernel

theorem witness_DiscardedResponsesTellNoBlock :
    let s : State := { active with down.slots := .stale 0#40 :: List.replicate 15 .free }
    active.dslot 0#4 = .free ∧ s.dslot 0#4 = .stale 0#40 ∧ (Effect.slotFreed s 0#4).calm = true ∧
      ({ s with rstN := false } : State).rstN = false := by decide +kernel

end Sys2Proof.Tests
end

/-! ## The Transaction Table: turns, moves and changes

What the operations of the part do to the Upstream Port within an event, said once: they make moves (`TurnMove`). That the
table stays in order (R27), that no turn is left unused (R29) and that nothing is left to accept (R35) follow from the moves
alone. -/

section
namespace Sys2Proof.AccessPath

open Sys2Proof Sys2Proof.Machine Relation

/-! ### The invariants, as propositions about the Upstream Port -/

/-- The fields of an entry that no move changes and on which turns depend (R29): its tag, its line and its age. -/
def txnKey (e : Txn) : Tag × Addr × Nat := (e.tag, e.line, e.age)

/-- An entry has its turn when no entry with its line is older (R29). -/
def HasTurn (u : UpstreamPort) (e : Txn) : Prop := ∀ o ∈ u.txns, o.line = e.line → e.age ≤ o.age

theorem hasTurn_iff {s : State} {e : Txn} : s.hasTurn e = true ↔ HasTurn s.up e := by
  simp [State.hasTurn, HasTurn]

/-- Whether an entry has its turn depends on its key alone. -/
theorem HasTurn.of_key {u : UpstreamPort} {e o : Txn} (hk : txnKey o = txnKey e) (h : HasTurn u e) : HasTurn u o := by
  simp only [txnKey, Prod.mk.injEq] at hk
  obtain ⟨-, hline, hage⟩ := hk
  exact fun x hx hl => hage ▸ h x hx (hl.trans hline)

/-- `State.tableOk` (R27) as a proposition about the Upstream Port. -/
structure TableOk (u : UpstreamPort) : Prop where
  room : u.txns.length ≤ 16
  tags : (u.txns.map Txn.tag).Nodup
  ages : (u.txns.map Txn.age).Pairwise (· < ·)
  below : ∀ e ∈ u.txns, e.age < u.nextAge

theorem tableOk_iff {s : State} : s.tableOk = true ↔ TableOk s.up := by
  simp only [State.tableOk, Bool.and_eq_true, decide_eq_true_eq, List.all_eq_true]
  exact ⟨fun ⟨⟨⟨h1, h2⟩, h3⟩, h4⟩ => ⟨h1, h2, h3, h4⟩, fun ⟨h1, h2, h3, h4⟩ => ⟨⟨⟨h1, h2⟩, h3⟩, h4⟩⟩

/-- No entry with the tag waits in WAIT_LINE with its turn. -/
def TurnUsedBy (t : Tag) (u : UpstreamPort) : Prop :=
  ∀ e ∈ u.txns, e.tag = t → e.stage = .waitLine → ¬HasTurn u e

/-- `State.turnsSettled` (R29) as a proposition about the Upstream Port. -/
def TurnsUsed (u : UpstreamPort) : Prop := ∀ t, TurnUsedBy t u

theorem turnsSettled_iff {s : State} : s.turnsSettled = true ↔ TurnsUsed s.up := by
  simp only [State.turnsSettled, List.all_eq_true, Bool.not_eq_true', Bool.eq_false_iff, ne_eq, Bool.and_eq_true,
    beq_iff_eq, hasTurn_iff, not_and]
  exact ⟨fun h t e he _ => h e he, fun h e he => h e.tag e he rfl⟩

/-- `State.nothingToAccept` (R27, R35) as a proposition about the Upstream Port. -/
def NothingToAccept (u : UpstreamPort) : Prop :=
  ∀ r, u.presented = some r → 16 ≤ u.txns.length ∨ r.tag ∈ u.txns.map Txn.tag

theorem canAccept_iff {s : State} {r : Request} :
    s.canAccept r = true ↔ s.up.txns.length < 16 ∧ r.tag ∉ s.up.txns.map Txn.tag := by
  simp only [State.canAccept, Bool.and_eq_true, decide_eq_true_eq]
  simp

theorem nothingToAccept_iff {s : State} : s.nothingToAccept = true ↔ NothingToAccept s.up := by
  unfold State.nothingToAccept NothingToAccept
  cases s.up.presented with
  | none => simp
  | some r =>
    simp only [Bool.not_eq_true', Bool.eq_false_iff, ne_eq, canAccept_iff, Option.some.injEq, forall_eq', not_and_or,
      not_not, Nat.not_lt]

/-! ### Moves that keep the entries -/

/-- The same request presented, the same next age, and entries that differ in stage and data alone. -/
structure SameEntries (u v : UpstreamPort) : Prop where
  presented : v.presented = u.presented
  nextAge : v.nextAge = u.nextAge
  keys : v.txns.map txnKey = u.txns.map txnKey

namespace SameEntries

variable {u v w : UpstreamPort}

theorem refl (u : UpstreamPort) : SameEntries u u := ⟨rfl, rfl, rfl⟩

theorem trans (h : SameEntries u v) (k : SameEntries v w) : SameEntries u w :=
  ⟨k.presented.trans h.presented, k.nextAge.trans h.nextAge, k.keys.trans h.keys⟩

theorem symm (h : SameEntries u v) : SameEntries v u := ⟨h.presented.symm, h.nextAge.symm, h.keys.symm⟩

/-- An update of each entry that leaves its key. -/
theorem of_map {f : Txn → Txn} (hf : ∀ e, txnKey (f e) = txnKey e) (u : UpstreamPort) :
    SameEntries u { u with txns := u.txns.map f } :=
  ⟨rfl, rfl, by simp only [List.map_map]; exact List.map_congr_left fun e _ => hf e⟩

/-- Each entry after has an entry before with its key. -/
theorem exists_key (h : SameEntries u v) {e : Txn} (he : e ∈ v.txns) : ∃ o ∈ u.txns, txnKey o = txnKey e := by
  have hk : txnKey e ∈ v.txns.map txnKey := List.mem_map_of_mem he
  rw [h.keys] at hk
  exact List.mem_map.1 hk

theorem length_eq (h : SameEntries u v) : v.txns.length = u.txns.length := by
  simpa using congrArg List.length h.keys

theorem tags_eq (h : SameEntries u v) : v.txns.map Txn.tag = u.txns.map Txn.tag := by
  simpa [Function.comp_def, txnKey] using congrArg (List.map Prod.fst) h.keys

theorem ages_eq (h : SameEntries u v) : v.txns.map Txn.age = u.txns.map Txn.age := by
  simpa [Function.comp_def, txnKey] using congrArg (List.map fun k => k.2.2) h.keys

theorem hasTurn (h : SameEntries u v) {e : Txn} (ht : HasTurn u e) : HasTurn v e := by
  intro o ho hl
  obtain ⟨o', ho', hk⟩ := h.exists_key ho
  simp only [txnKey, Prod.mk.injEq] at hk
  obtain ⟨-, hline, hage⟩ := hk
  exact hage ▸ ht o' ho' (hline.trans hl)

theorem tableOk (h : SameEntries u v) (ok : TableOk u) : TableOk v where
  room := h.length_eq ▸ ok.room
  tags := h.tags_eq ▸ ok.tags
  ages := h.ages_eq ▸ ok.ages
  below e he := by
    obtain ⟨o, ho, hk⟩ := h.exists_key he
    simp only [txnKey, Prod.mk.injEq] at hk
    obtain ⟨-, -, hage⟩ := hk
    rw [← hage, h.nextAge]
    exact ok.below o ho

theorem nothingToAccept (h : SameEntries u v) (hn : NothingToAccept u) : NothingToAccept v := by
  intro r hr
  rw [h.length_eq, h.tags_eq]
  exact hn r (h.presented ▸ hr)

end SameEntries

theorem setStage_sameEntries (u : UpstreamPort) (t : Tag) (st : Stage) : SameEntries u (u.setStage t st) :=
  .of_map (fun e => by split <;> rfl) u

theorem dataTaken_sameEntries (u : UpstreamPort) (o : Origin) : SameEntries u (u.dataTaken o) := by
  unfold UpstreamPort.dataTaken
  split
  · exact .of_map (fun e => by split <;> rfl) u
  · exact .refl u

/-- An entry after a move of stage: it has the new stage if it carries the tag, and was there before if it does not. -/
theorem mem_setStage {u : UpstreamPort} {t : Tag} {st : Stage} {e : Txn} (h : e ∈ (u.setStage t st).txns) :
    e.tag = t ∧ e.stage = st ∨ e.tag ≠ t ∧ e ∈ u.txns := by
  obtain ⟨o, ho, rfl⟩ := List.mem_map.1 h
  by_cases ht : o.tag = t
  · simp [ht]
  · simp [ht, ho]

/-- An entry after data are taken was there before, but for its data. -/
theorem mem_dataTaken {u : UpstreamPort} {o : Origin} {e : Txn} (h : e ∈ (u.dataTaken o).txns) :
    ∃ e' ∈ u.txns, txnKey e' = txnKey e ∧ e'.stage = e.stage := by
  unfold UpstreamPort.dataTaken at h
  split at h
  · obtain ⟨e', he', rfl⟩ := List.mem_map.1 h
    exact ⟨e', he', by split <;> rfl, by split <;> rfl⟩
  · exact ⟨e, h, rfl, rfl⟩

/-- The moves within an event: an entry leaves WAIT_LINE or moves on, enters WAIT_LINE without its turn, or gives its data
away. -/
inductive TurnMove (u : UpstreamPort) : UpstreamPort → Prop
  | advance (t : Tag) (st : Stage) (h : st ≠ .waitLine) : TurnMove u (u.setStage t st)
  | await (t : Tag) (h : ∀ e ∈ u.txns, e.tag = t → ¬HasTurn u e) : TurnMove u (u.setStage t .waitLine)
  | giveData (o : Origin) : TurnMove u (u.dataTaken o)

namespace TurnMove

variable {u v : UpstreamPort}

theorem sameEntries (h : TurnMove u v) : SameEntries u v := by
  cases h with
  | advance t st => exact setStage_sameEntries u t st
  | await t => exact setStage_sameEntries u t .waitLine
  | giveData o => exact dataTaken_sameEntries u o

/-- A move leaves no turn unused that was used before. -/
theorem turnUsedBy {k : Tag} (h : TurnMove u v) (hk : TurnUsedBy k u) : TurnUsedBy k v := by
  intro e he htag hw hturn
  have hturn' : HasTurn u e := h.sameEntries.symm.hasTurn hturn
  cases h with
  | advance t st hst =>
    rcases mem_setStage he with ⟨-, hs⟩ | ⟨-, he⟩
    · exact hst (hs.symm.trans hw)
    · exact hk e he htag hw hturn'
  | await t hno =>
    rcases mem_setStage he with ⟨ht, -⟩ | ⟨-, he⟩
    · obtain ⟨o, ho, hkey⟩ := (setStage_sameEntries u t .waitLine).exists_key he
      simp only [txnKey, Prod.mk.injEq] at hkey
      obtain ⟨hotag, holine, hoage⟩ := hkey
      exact hno o ho (hotag.trans ht) fun x hx hl => hoage ▸ hturn' x hx (hl.trans holine)
    · exact hk e he htag hw hturn'
  | giveData o =>
    obtain ⟨e', he', hkey, hstage⟩ := mem_dataTaken he
    exact hk e' he' ((congrArg Prod.fst hkey).trans htag) (hstage.trans hw) (hturn'.of_key hkey)

end TurnMove

/-- The Upstream Port of `t` comes from that of `s` by moves. -/
def Moves (s t : State) : Prop := ReflTransGen TurnMove s.up t.up

namespace Moves

variable {s t u : State}

theorem of_up_eq (h : t.up = s.up) : Moves s t := by
  unfold Moves
  rw [h]

theorem refl (s : State) : Moves s s := of_up_eq rfl

theorem trans (h : Moves s t) (k : Moves t u) : Moves s u := ReflTransGen.trans h k

/-- The Upstream Port is advanced, and other blocks change as they will. -/
theorem of_advance {k : Tag} {st : Stage} (hst : st ≠ .waitLine) (h : t.up = s.up.setStage k st) : Moves s t := by
  unfold Moves
  rw [h]
  exact .single (.advance k st hst)

theorem foldl {α : Type} {f : State → α → State} (hf : ∀ s a, Moves s (f s a)) :
    ∀ (l : List α) (s : State), Moves s (l.foldl f s)
  | [], s => refl s
  | a :: l, s => (hf s a).trans (foldl hf l (f s a))

/-- A property of the Upstream Port that every move keeps. -/
theorem keep {P : UpstreamPort → Prop} (hP : ∀ u v, TurnMove u v → P u → P v) (h : Moves s t) (hs : P s.up) : P t.up :=
  ReflTransGen.head_induction_on (motive := fun u _ => P u → P t.up) h id (fun hm _ ih hu => ih (hP _ _ hm hu)) hs

theorem sameEntries (h : Moves s t) : SameEntries s.up t.up :=
  h.keep (P := SameEntries s.up) (fun _ _ hm hu => hu.trans hm.sameEntries) (.refl _)

theorem turnUsedBy {k : Tag} (h : Moves s t) (hk : TurnUsedBy k s.up) : TurnUsedBy k t.up :=
  h.keep (fun _ _ hm hu => hm.turnUsedBy hu) hk

theorem turnsUsed (h : Moves s t) (hs : TurnsUsed s.up) : TurnsUsed t.up := fun k => h.turnUsedBy (hs k)

theorem tableOk (h : Moves s t) (ok : TableOk s.up) : TableOk t.up := h.sameEntries.tableOk ok

theorem nothingToAccept (h : Moves s t) (hn : NothingToAccept s.up) : NothingToAccept t.up :=
  h.sameEntries.nothingToAccept hn

end Moves

end Sys2Proof.AccessPath
end

/-! ## The path of an access: what each part of an event does to the Transaction Table -/

section
namespace Sys2Proof.AccessPath

open Sys2Proof Sys2Proof.Machine Relation

/-! ### Parts that leave the Upstream Port -/

section upstreamKept

variable (s : State)

theorem reclaim_up (q : Seq) : (s.reclaim q).up = s.up := by
  unfold State.reclaim
  dsimp only
  split <;> rfl

theorem push_up (c : Serial × Bool) (o : FrameOrigin) : (s.push c o).up = s.up := by
  unfold State.push
  dsimp only
  split <;> rfl

theorem fold_up : s.fold.up = s.up := by
  unfold State.fold
  dsimp only
  split
  · split
    · exact reclaim_up _ _
    · rfl
  · rfl

theorem decideOpen_up : s.decideOpen.up = s.up := by
  unfold State.decideOpen
  dsimp only
  repeat' split
  · rfl
  · rfl
  · exact (push_up _ _ _).trans (fold_up s)
  · exact push_up s _ _

theorem grantOldest_up : s.grantOldest.up = s.up := by
  unfold State.grantOldest
  split
  · rfl
  · split <;> rfl

theorem startWriter_up : s.startWriter.up = s.up := by
  unfold State.startWriter
  split <;> rfl

theorem quiesceIfOver_up : s.quiesceIfOver.up = s.up := by
  unfold State.quiesceIfOver
  split <;> rfl

theorem beginStep_up : s.beginStep.up = s.up := by
  unfold State.beginStep
  split
  · unfold State.stageStep
    split <;> rfl
  · rfl

theorem popFrames_up : s.popFrames.up = s.up := by
  unfold State.popFrames
  dsimp only
  split
  · exact reclaim_up _ _
  · rfl

theorem giveOwed_up (p : Bool) : (s.giveOwed p).up = s.up := by
  unfold State.giveOwed
  split <;> rfl

theorem takeReservation_up : s.takeReservation.up = s.up := by
  unfold State.takeReservation
  dsimp only
  split
  · split
    · rfl
    · exact push_up _ _ _
  · rfl

theorem reloadIfFrames_up : s.reloadIfFrames.up = s.up := by
  unfold State.reloadIfFrames
  split <;> rfl

end upstreamKept

/-! ### Parts that make moves -/

section moves

variable (s : State)

theorem issue_moves (e : Txn) : Moves s (s.issue e) := .of_advance (by simp) rfl

theorem judge_moves (e : Txn) : Moves s (s.judge e) := by
  unfold State.judge
  split
  · exact .of_advance (st := .capture) (by simp) rfl
  · exact issue_moves s e

theorem proceed_moves (e : Txn) : Moves s (s.proceed e) := by
  unfold State.proceed
  split
  · exact judge_moves s e
  · exact issue_moves s e

theorem rejudgeOne_moves (t : Tag) : Moves s (s.rejudgeOne t) := by
  unfold State.rejudgeOne
  split
  · exact .refl s
  · split
    · exact .refl s
    · exact (issue_moves s _).trans (.of_up_eq rfl)

theorem rejudge_moves : Moves s s.rejudge := by
  have h := Moves.foldl rejudgeOne_moves s.cap.waitList s
  unfold State.rejudge
  dsimp only
  split
  · exact h.trans (.of_up_eq rfl)
  · exact h

theorem breakLowest_moves (c : BreakCause) : Moves s (s.breakLowest c) := by
  unfold State.breakLowest
  dsimp only
  split
  · exact .refl s
  · split
    · refine .trans (.of_up_eq ?_) (rejudge_moves _)
      exact reclaim_up _ _
    · exact .of_up_eq (reclaim_up _ _)

theorem grantLoop_moves (n : Nat) (x : Bool) : Moves s (State.grantLoop n x s) := by
  induction n generalizing s x with
  | zero => exact .refl s
  | succ n ih =>
    unfold State.grantLoop
    split
    · exact .refl s
    · split
      · exact (Moves.of_up_eq (grantOldest_up s)).trans (ih _ _)
      · split
        · exact (breakLowest_moves s _).trans (ih _ _)
        · split
          · exact (breakLowest_moves s _).trans (ih _ _)
          · exact .of_up_eq rfl

theorem grantCaptures_moves : Moves s s.grantCaptures := grantLoop_moves s _ _

theorem expireHold_moves : Moves s s.expireHold :=
  (Moves.of_up_eq rfl).trans ((breakLowest_moves s.stopHold _).trans (grantLoop_moves _ _ _))

theorem wakeOne_moves (t : Tag) : Moves s (s.wakeOne t) := by
  unfold State.wakeOne
  split
  · exact .refl s
  · split
    · exact proceed_moves s _
    · exact .refl s

theorem wake_moves : Moves s s.wake := Moves.foldl wakeOne_moves _ s

theorem arbitrate_moves : Moves s s.arbitrate := by
  unfold State.arbitrate
  generalize s.down.waiting.length = n
  induction n generalizing s with
  | zero => exact .refl s
  | succ n ih =>
    unfold State.arbitrateLoop
    split
    · rename_i w i _ _
      exact Moves.trans (t := s.grantDown w i) (ReflTransGen.single (.giveData w.origin)) (ih _)
    · exact .refl s

end moves

/-! ### The release from HELD (R34), where tags are distinct -/

section release

variable {s : State}

/-- Where tags are distinct, the entry found by a tag is the only one with it. -/
theorem eq_of_findTxn (ok : TableOk s.up) {t : Tag} {e o : Txn} (hf : s.findTxn t = some e) (ho : o ∈ s.up.txns)
    (ht : o.tag = t) : o = e :=
  let ⟨he, het⟩ := findTxn_mem hf
  List.inj_on_of_nodup_map ok.tags ho he (ht.trans het.symm)

theorem releaseOne_moves (ok : TableOk s.up) (t : Tag) : Moves s (s.releaseOne t) := by
  unfold State.releaseOne
  split
  · exact .refl s
  · rename_i e hf
    split
    · exact proceed_moves s e
    · rename_i hno
      refine ReflTransGen.single (TurnMove.await t fun o ho ht hturn => hno ?_)
      exact hasTurn_iff.2 (eq_of_findTxn ok hf ho ht ▸ hturn)

theorem foldl_releaseOne_moves (l : List Tag) (ok : TableOk s.up) : Moves s (l.foldl State.releaseOne s) := by
  induction l generalizing s with
  | nil => exact .refl s
  | cons t l ih => exact (releaseOne_moves ok t).trans (ih ((releaseOne_moves ok t).tableOk ok))

theorem release_moves (ok : TableOk s.up) (c : HoldCause) : Moves s (s.release c) := foldl_releaseOne_moves _ ok

theorem completeBarrier_moves (ok : TableOk s.up) : Moves s s.completeBarrier := by
  have h : ({ s with frames.barrier := none } : State).decideOpen.up = s.up := decideOpen_up _
  exact (Moves.of_up_eq h).trans (release_moves (by rw [h]; exact ok) .barrier)

theorem barrierIfDone_moves (ok : TableOk s.up) : Moves s s.barrierIfDone := by
  unfold State.barrierIfDone
  split
  · exact completeBarrier_moves ok
  · exact .refl s
  · exact .refl s

theorem completeRollback_moves (ok : TableOk s.up) : Moves s s.completeRollback := by
  have h : (s.popFrames.giveOwed (s.popped.any (·.status == .broken))).takeReservation.up = s.up :=
    (takeReservation_up _).trans ((giveOwed_up _ _).trans (popFrames_up s))
  exact ((Moves.of_up_eq h).trans (release_moves (by rw [h]; exact ok) .rollback)).trans
    (.of_up_eq (reloadIfFrames_up _))

theorem unwindLoop_moves (n : Nat) (ok : TableOk s.up) : Moves s (State.unwindLoop n s) := by
  induction n generalizing s with
  | zero => exact .refl s
  | succ n ih =>
    unfold State.unwindLoop
    split
    · split
      · exact completeRollback_moves ok
      · exact (Moves.of_up_eq (beginStep_up s)).trans (ih (by rw [beginStep_up]; exact ok))
    · exact .refl s

theorem unwind_moves (ok : TableOk s.up) : Moves s s.unwind := unwindLoop_moves _ ok

/-- After the acceptance, an event makes moves alone: no entry is made or freed. -/
theorem settle_moves_after_acceptance (hr : s.rstN = true) (ok : TableOk s.wake.acceptPresented.up) :
    Moves s.wake.acceptPresented s.settle := by
  simp only [State.settle, hr, if_true]
  have h1 := grantCaptures_moves s.wake.acceptPresented
  have h2 := h1.trans (barrierIfDone_moves (h1.tableOk ok))
  have h3 := (h2.trans (grantCaptures_moves _)).trans (.of_up_eq (startWriter_up _))
  have h4 := h3.trans (.of_up_eq (quiesceIfOver_up _))
  have h5 := h4.trans (unwind_moves (h4.tableOk ok))
  exact ((h5.trans (grantCaptures_moves _)).trans (.of_up_eq (startWriter_up _))).trans (arbitrate_moves _)

end release

/-! ### Turns that are gained (R29) -/

section wake

variable {s : State}

/-- An entry moved to a stage other than WAIT_LINE waits for no turn. -/
theorem turnUsedBy_setStage (u : UpstreamPort) (t : Tag) {st : Stage} (h : st ≠ .waitLine) :
    TurnUsedBy t (u.setStage t st) := by
  intro e he ht hw
  rcases mem_setStage he with ⟨-, hs⟩ | ⟨hne, -⟩
  · exact absurd (hs.symm.trans hw) h
  · exact absurd ht hne

/-- An entry that proceeds uses its turn: it is issued or waits for a capture (R30, R31). -/
theorem proceed_turnUsedBy (s : State) (e : Txn) : TurnUsedBy e.tag (s.proceed e).up := by
  unfold State.proceed State.judge
  repeat' split
  · exact turnUsedBy_setStage s.up e.tag (st := .capture) (by simp)
  · exact turnUsedBy_setStage s.up e.tag (st := .issued) (by simp)
  · exact turnUsedBy_setStage s.up e.tag (st := .issued) (by simp)

theorem wakeOne_turnUsedBy (ok : TableOk s.up) (t : Tag) : TurnUsedBy t (s.wakeOne t).up := by
  unfold State.wakeOne
  split
  · rename_i hf
    intro e he ht
    simpa [ht] using List.find?_eq_none.1 hf e he
  · rename_i e hf
    split
    · exact (findTxn_mem hf).2 ▸ proceed_turnUsedBy s e
    · rename_i hno
      intro o ho ht hw hturn
      obtain rfl := eq_of_findTxn ok hf ho ht
      exact hno (by simp [hw, hasTurn_iff.2 hturn])

theorem foldl_wakeOne_turnUsedBy {k : Tag} {l : List Tag} (ok : TableOk s.up) (hk : k ∈ l) :
    TurnUsedBy k (l.foldl State.wakeOne s).up := by
  induction l generalizing s with
  | nil => cases hk
  | cons t l ih =>
    have hm := wakeOne_moves s t
    rcases List.mem_cons.1 hk with rfl | hk
    · exact (Moves.foldl wakeOne_moves l _).turnUsedBy (wakeOne_turnUsedBy ok k)
    · exact ih (hm.tableOk ok) hk

/-- Every turn that has been gained is used. -/
theorem wake_turnsUsed (ok : TableOk s.up) : TurnsUsed s.wake.up := by
  intro k
  by_cases hk : k ∈ s.up.txns.map Txn.tag
  · exact foldl_wakeOne_turnUsedBy ok hk
  · intro e he ht
    rw [← (wake_moves s).sameEntries.tags_eq, ← ht] at hk
    exact absurd (List.mem_map_of_mem he) hk

end wake

/-! ### Acceptance (R27, R28) -/

section acceptance

variable {s : State}

/-- The Upstream Port with an entry added at the back, which has taken the next age. -/
def enrolled (u : UpstreamPort) (e : Txn) : UpstreamPort :=
  { u with txns := u.txns ++ [e], nextAge := u.nextAge + 1 }

theorem enrolled_tableOk {u : UpstreamPort} {e : Txn} (ok : TableOk u) (hroom : u.txns.length < 16)
    (htag : e.tag ∉ u.txns.map Txn.tag) (hage : e.age = u.nextAge) : TableOk (enrolled u e) where
  room := by simpa [enrolled] using hroom
  tags := by
    have h : ∀ a ∈ u.txns.map Txn.tag, a ≠ e.tag := fun a ha h => htag (h ▸ ha)
    simpa [enrolled, List.nodup_append, ok.tags] using h
  ages := by simpa [enrolled, List.pairwise_append, ok.ages, hage] using ok.below
  below o ho := by
    rcases List.mem_append.1 ho with ho | ho
    · exact Nat.lt_succ_of_lt (ok.below o ho)
    · obtain rfl := List.mem_singleton.1 ho
      exact hage ▸ Nat.lt_succ_self _

/-- A younger entry takes no turn away. -/
theorem HasTurn.of_enrolled {u : UpstreamPort} {e o : Txn} (h : HasTurn (enrolled u e) o) : HasTurn u o :=
  fun x hx => h x (List.mem_append_left _ hx)

theorem enrolled_turnUsedBy {u : UpstreamPort} {e : Txn} {k : Tag} (h : TurnUsedBy k u) (hk : k ≠ e.tag) :
    TurnUsedBy k (enrolled u e) := by
  intro o ho ht hw hturn
  rcases List.mem_append.1 ho with ho | ho
  · exact h o ho ht hw hturn.of_enrolled
  · obtain rfl := List.mem_singleton.1 ho
    exact hk ht.symm

/-- What acceptance into the table does: the entry is added, and it moves on or waits without its turn (R29 to R33). -/
theorem enroll_moves (s : State) (e : Txn) :
    ReflTransGen TurnMove (enrolled s.up e) (s.enroll e).up ∧
      (e.tag ∉ s.up.txns.map Txn.tag → TurnUsedBy e.tag (s.enroll e).up) := by
  have held : ∀ c, ReflTransGen TurnMove (enrolled s.up e) ((enrolled s.up e).setStage e.tag (.held c)) ∧
      (e.tag ∉ s.up.txns.map Txn.tag → TurnUsedBy e.tag ((enrolled s.up e).setStage e.tag (.held c))) := fun c =>
    ⟨.single (.advance _ _ (by simp)), fun _ => turnUsedBy_setStage _ _ (by simp)⟩
  unfold State.enroll
  dsimp only
  split
  · exact held .rollback
  split
  · exact held .barrier
  split
  · exact ⟨proceed_moves { s with up := enrolled s.up e } e, fun _ => proceed_turnUsedBy _ e⟩
  · rename_i hno
    refine ⟨.refl, fun htag o ho ht _ hturn => ?_⟩
    rcases List.mem_append.1 ho with ho | ho
    · exact htag (ht ▸ List.mem_map_of_mem ho)
    · obtain rfl := List.mem_singleton.1 ho
      exact hno (hasTurn_iff.2 hturn)

/-- What an acceptance does to the Upstream Port: an age is taken, and the entry made, if any, has it and the request's
tag. -/
theorem accept_cases (s : State) (r : Request) :
    (s.accept r).up = { s.up with nextAge := s.up.nextAge + 1 } ∨
      ∃ cls, (s.accept r).up = (s.enroll (s.newTxn r cls)).up := by
  unfold State.accept
  repeat' split
  · exact .inl rfl
  · exact .inl rfl
  · exact .inr ⟨_, rfl⟩
  · exact .inl rfl
  · exact .inr ⟨_, rfl⟩
  · exact .inr ⟨_, rfl⟩

/-- What an acceptance keeps of the Upstream Port before it, and that it leaves nothing to accept. -/
structure Accepts (u v : UpstreamPort) : Prop where
  tableOk : TableOk u → TableOk v
  turnsUsed : TurnsUsed u → TurnsUsed v
  nothing : NothingToAccept v

theorem accept_accepts {r : Request} (hp : s.up.presented = none) (hroom : s.up.txns.length < 16)
    (htag : r.tag ∉ s.up.txns.map Txn.tag) : Accepts s.up (s.accept r).up := by
  rcases accept_cases s r with h | ⟨cls, h⟩
  · rw [h]
    exact {
      tableOk := fun ok => ⟨ok.room, ok.tags, ok.ages, fun e he => Nat.lt_succ_of_lt (ok.below e he)⟩
      turnsUsed := id
      nothing := fun _ hr => by simp [hp] at hr }
  · rw [h]
    obtain ⟨hm, hused⟩ := enroll_moves s (s.newTxn r cls)
    have hm' : Moves { s with up := enrolled s.up (s.newTxn r cls) } (s.enroll (s.newTxn r cls)) := hm
    exact {
      tableOk := fun ok => hm'.tableOk (enrolled_tableOk ok hroom htag rfl)
      turnsUsed := fun hs k => by
        by_cases hk : k = r.tag
        · exact hk ▸ hused htag
        · exact hm'.turnUsedBy (enrolled_turnUsedBy (hs k) hk)
      nothing := hm'.nothingToAccept fun _ hr => by simp [enrolled, hp] at hr }

/-- After the acceptance nothing is left to accept (R27). -/
theorem acceptPresented_accepts (s : State) : Accepts s.up s.acceptPresented.up := by
  unfold State.acceptPresented
  split
  · rename_i hp
    exact ⟨id, id, fun r hr => by simp [hp] at hr⟩
  · rename_i r hp
    split
    · rename_i hc
      obtain ⟨hroom, htag⟩ := canAccept_iff.1 hc
      have h := accept_accepts (s := { s with up.presented := none }) rfl hroom htag
      exact ⟨fun ok => h.tableOk ⟨ok.room, ok.tags, ok.ages, ok.below⟩, h.turnsUsed, h.nothing⟩
    · rename_i hc
      exact ⟨id, id, nothingToAccept_iff.1 (by simpa [State.nothingToAccept, hp] using hc)⟩

end acceptance

/-! ### A whole event -/

theorem settle_tableOk {s : State} (ok : TableOk s.up) : TableOk s.settle.up := by
  cases hr : s.rstN with
  | false => rwa [settle_of_reset hr]
  | true =>
    have ok' := (acceptPresented_accepts s.wake).tableOk ((wake_moves s).tableOk ok)
    exact (settle_moves_after_acceptance hr ok').tableOk ok'

/-- An event that starts from a table in order leaves no turn unused and no request unaccepted (R29, R35). -/
theorem settle_upstreamDone {s : State} (ok : TableOk s.up) : s.settle.upstreamDone = true := by
  cases hr : s.rstN with
  | false => simp [State.upstreamDone, (settle_keeps s).rstN, hr]
  | true =>
    have ha := acceptPresented_accepts s.wake
    have hm := settle_moves_after_acceptance hr (ha.tableOk ((wake_moves s).tableOk ok))
    have h1 := turnsSettled_iff.2 (hm.turnsUsed (ha.turnsUsed (wake_turnsUsed ok)))
    have h2 := nothingToAccept_iff.2 (hm.nothingToAccept ha.nothing)
    simp [State.upstreamDone, h1, h2]

end Sys2Proof.AccessPath
end

/-! ## What a step leaves of the Transaction Table (R27, R29, R35)

A command either makes moves alone, or ends with a settled event whose direct effect keeps the table in order. -/

section
namespace Sys2Proof.AccessPath

open Sys2Proof Sys2Proof.Machine

/-! ### Direct effects keep the table in order -/

section direct

variable {s : State}

/-- The Upstream Port is left, and other blocks change as they will. -/
theorem tableOk_of_up_eq {t : State} (h : t.up = s.up) (ok : TableOk s.up) : TableOk t.up := h ▸ ok

theorem setStage_tableOk (ok : TableOk s.up) (t : Tag) (st : Stage) : TableOk (s.setStage t st).up :=
  (setStage_sameEntries s.up t st).tableOk ok

/-- Entries leave the table. -/
theorem finish_tableOk (ok : TableOk s.up) (t : Tag) (c : UpCode) (d : List Beat) : TableOk (s.finish t c d).up :=
  have hs : (s.finish t c d).up.txns.Sublist s.up.txns := List.filter_sublist
  { room := hs.length_le.trans ok.room
    tags := (hs.map Txn.tag).nodup ok.tags
    ages := ok.ages.sublist (hs.map Txn.age)
    below := fun e he => ok.below e (hs.subset he) }

theorem foldl_tableOk {α : Type} {f : State → α → State} (hf : ∀ s a, TableOk s.up → TableOk (f s a).up)
    (ok : TableOk s.up) (l : List α) : TableOk (l.foldl f s).up := by
  induction l generalizing s with
  | nil => exact ok
  | cons a l ih => exact ih (hf s a ok)

theorem answerPassthrough_tableOk (ok : TableOk s.up) (t : Tag) (resp : MemResponse) :
    TableOk (s.answerPassthrough t resp).up := by
  unfold State.answerPassthrough
  split
  · exact ok
  split
  · exact finish_tableOk ok _ _ _
  split
  · exact finish_tableOk ok _ _ _
  · exact finish_tableOk ok _ _ _

theorem captureOk_tableOk (ok : TableOk s.up) (c : CaptureSlot) (d : LineData) : TableOk (s.captureOk c d).up := by
  unfold State.captureOk
  dsimp only
  repeat' split
  · exact (issue_moves _ _).tableOk ok
  · exact (issue_moves _ _).tableOk ok
  · exact ok
  · exact ok

theorem captureErr_tableOk (ok : TableOk s.up) (c : CaptureSlot) : TableOk (s.captureErr c).up := by
  unfold State.captureErr
  dsimp only
  repeat' split
  · exact finish_tableOk (by exact ok) _ _ _
  · exact finish_tableOk ok _ _ _
  · exact ok
  · exact ok

theorem completeCapture_tableOk (ok : TableOk s.up) (i : Nat) (resp : LineResponse) :
    TableOk (s.completeCapture i resp).up := by
  unfold State.completeCapture
  split
  · exact ok
  dsimp only
  split
  · exact ok
  split
  · exact captureOk_tableOk (by exact ok) _ _
  · exact captureErr_tableOk (by exact ok) _

theorem cancelReservation_up (s : State) : s.cancelReservation.up = s.up := by
  unfold State.cancelReservation
  split <;> rfl

theorem enterFailed_tableOk (ok : TableOk s.up) (cause : FailCause) : TableOk (s.enterFailed cause).up :=
  tableOk_of_up_eq (s := s.unissuedGuarded.foldl State.deny s) (cancelReservation_up _)
    (foldl_tableOk (fun _ _ ok => finish_tableOk ok _ _ _) ok _)

theorem endAttempt_tableOk (ok : TableOk s.up) (j : WriterJob) : TableOk (s.endAttempt j).up := by
  unfold State.endAttempt
  dsimp only
  repeat' split
  · exact ok
  · exact ok
  · exact ok
  · exact enterFailed_tableOk (by exact ok) _
  · exact ok

theorem countLogAnswer_tableOk (ok : TableOk s.up) (resp : MemStatus) : TableOk (s.countLogAnswer resp).up := by
  unfold State.countLogAnswer
  dsimp only
  repeat' split
  · exact ok
  · exact endAttempt_tableOk ok _
  · exact ok

/-- The three ways in which a step's two reads are judged (R95). (The verdict is split before its match is reduced, so that
the kernel does not evaluate the check.) -/
theorem judgeReads_cases (s : State) (h : Hand) (header image : LineResponse) :
    (∃ cause, s.judgeReads h header image = s.enterFailed cause) ∨ s.judgeReads h header image = s.endStep ∨
      ∃ line data, s.judgeReads h header image =
        State.handWriteBack { s with engine.hand := some { h with step := .writing } } line data := by
  cases header with
  | err => exact .inl ⟨.unwindRead, rfl⟩
  | ok hd =>
    cases image with
    | err => exact .inl ⟨.unwindRead, rfl⟩
    | ok im =>
      rw [State.judgeReads]
      cases verifyRecord h.seq hd im with
      | fails cause => exact .inl ⟨cause, rfl⟩
      | void => exact .inr (.inl rfl)
      | image line data => exact .inr (.inr ⟨line, data, rfl⟩)

theorem judgeReads_tableOk (ok : TableOk s.up) (h : Hand) (hd im : LineResponse) : TableOk (s.judgeReads h hd im).up := by
  rcases judgeReads_cases s h hd im with ⟨cause, he⟩ | he | ⟨line, data, he⟩
  · rw [he]
    exact enterFailed_tableOk ok cause
  · rw [he]
    exact ok
  · rw [he]
    exact ok

theorem recordRead_tableOk (ok : TableOk s.up) (b : Bool) (resp : LineResponse) : TableOk (s.recordRead b resp).up := by
  unfold State.recordRead
  dsimp only
  split
  · split
    · split
      · exact judgeReads_tableOk ok _ _ _
      · exact ok
    · exact ok
  · exact ok

theorem recordWriteBack_tableOk (ok : TableOk s.up) (resp : MemStatus) : TableOk (s.recordWriteBack resp).up := by
  unfold State.recordWriteBack
  dsimp only
  repeat' split
  · exact enterFailed_tableOk ok _
  · exact ok
  · exact ok
  · exact ok

theorem absorb_tableOk (ok : TableOk s.up) (e : Txn) : TableOk (s.absorb e).up := by
  unfold State.absorb
  split
  · exact finish_tableOk ok _ _ _
  · exact setStage_tableOk ok _ _

theorem reserveOrBusy_up (s : State) : s.reserveOrBusy.up = s.up := by
  unfold State.reserveOrBusy
  split <;> rfl

theorem abandonBarrier_up (s : State) : s.abandonBarrier.up = s.up := by
  unfold State.abandonBarrier
  split
  · rfl
  · exact reserveOrBusy_up _

theorem startRollback_tableOk (ok : TableOk s.up) (k : AbortKind) (b : Bool) : TableOk (s.startRollback k b).up := by
  have ok' : TableOk ({ s with engine := s.startEngine k b }.stopHold.stopDeadline).abandonBarrier.up :=
    tableOk_of_up_eq (abandonBarrier_up _) ok
  unfold State.startRollback
  dsimp only
  split
  · exact foldl_tableOk (fun _ _ ok => absorb_tableOk ok _) ok' _
  · exact (release_moves ok' .barrier).tableOk ok'

theorem requestAbort_tableOk (ok : TableOk s.up) (k : AbortKind) (b : Bool) : TableOk (s.requestAbort k b).up := by
  unfold State.requestAbort
  repeat' split
  · exact ok
  · exact ok
  · exact ok
  · exact startRollback_tableOk ok k b

theorem actOnFault_tableOk (ok : TableOk s.up) (x : FaultSource) (a : FaultAction) : TableOk (s.actOnFault x a).up := by
  unfold State.actOnFault
  repeat' split
  · exact ok
  · exact ok
  · exact requestAbort_tableOk (s := s.postFault x .abort) ok _ _
  · exact requestAbort_tableOk (s := s.postFault x .abortAll) ok _ _
  all_goals exact ok

theorem expireDeadline_tableOk (ok : TableOk s.up) : TableOk s.expireDeadline.up :=
  actOnFault_tableOk (by exact ok) _ _

theorem tickHold_tableOk (ok : TableOk s.up) : TableOk s.tickHold.up := by
  unfold State.tickHold
  dsimp only
  repeat' split
  · exact (expireHold_moves { s with log := _ }).tableOk ok
  · exact ok
  · exact ok

theorem tickDeadline_tableOk (ok : TableOk s.up) : TableOk s.tickDeadline.up := by
  unfold State.tickDeadline
  dsimp only
  repeat' split
  · exact expireDeadline_tableOk (by exact ok)
  · exact ok
  · exact ok

theorem countPulse_tableOk (ok : TableOk s.up) : TableOk s.countPulse.up := by
  unfold State.countPulse State.tick
  split
  · exact tickDeadline_tableOk (tickHold_tableOk (by exact ok))
  · exact ok

theorem dealOpen_tableOk (ok : TableOk s.up) : TableOk s.dealOpen.up := by
  unfold State.dealOpen
  split
  · exact tableOk_of_up_eq (reserveOrBusy_up s) ok
  · exact ok

theorem commitTop_tableOk (ok : TableOk s.up) : TableOk s.commitTop.up := by
  unfold State.commitTop
  dsimp only
  split
  · exact ok
  split
  · exact (rejudge_moves _).tableOk (tableOk_of_up_eq (s := s) (reclaim_up _ _) ok)
  · refine (rejudge_moves _).tableOk (tableOk_of_up_eq (s := s) ?_ ok)
    split
    · exact reclaim_up _ _
    · rfl

theorem dealCommit_tableOk (ok : TableOk s.up) : TableOk s.dealCommit.up := by
  unfold State.dealCommit
  repeat' split
  · exact ok
  · exact ok
  · exact commitTop_tableOk ok

theorem present_tableOk (ok : TableOk s.up) (r : Request) : TableOk (s.present r).up := by
  unfold State.present
  split
  · exact ok
  · exact ⟨ok.room, ok.tags, ok.ages, ok.below⟩

theorem hardReset_tableOk (s : State) (c : ResetCause) : TableOk (s.hardReset c).up :=
  ⟨by simp [State.hardReset, State.reset], by simp [State.hardReset, State.reset],
    by simp [State.hardReset, State.reset], by simp [State.hardReset, State.reset]⟩

end direct

/-! ### The two ends of a command -/

/-- How a command ends, for the Upstream Port: with moves alone, or with an event settled after a direct effect. -/
inductive Ends (s : State) : State → Prop
  | moved {t : State} (hm : Moves s t) (hr : t.rstN = s.rstN) : Ends s t
  | settled {u : State} (h : TableOk s.up → TableOk u.up) : Ends s u.settle

namespace Ends

variable {s t : State}

/-- The command leaves the Upstream Port and the level of RST_N. -/
theorem kept (hu : t.up = s.up) (hr : t.rstN = s.rstN) : Ends s t := .moved (.of_up_eq hu) hr

theorem refl (s : State) : Ends s s := .kept rfl rfl

theorem tableOk (h : Ends s t) (ok : TableOk s.up) : TableOk t.up := by
  cases h with
  | moved hm => exact hm.tableOk ok
  | settled hu => exact settle_tableOk (hu ok)

/-- A queue of commands or of edges is shortened first. -/
theorem of_queue {s' : State} (hu : s'.up = s.up) (hr : s'.rstN = s.rstN) (h : Ends s' t) : Ends s t := by
  cases h with
  | moved hm hr' => exact .moved ((Moves.of_up_eq hu).trans hm) (hr'.trans hr)
  | settled hk => exact .settled fun ok => hk (hu ▸ ok)

theorem upstreamDone (h : Ends s t) (ok : TableOk s.up) (hd : s.upstreamDone = true) : t.upstreamDone = true := by
  cases h with
  | moved hm hr =>
    simp only [State.upstreamDone, hr, Bool.or_eq_true, Bool.and_eq_true, turnsSettled_iff, nothingToAccept_iff] at hd ⊢
    exact hd.imp id fun ⟨h1, h2⟩ => ⟨hm.turnsUsed h1, hm.nothingToAccept h2⟩
  | settled hu => exact settle_upstreamDone (hu ok)

end Ends

theorem controlRise_ends (s : State) (req : CtlRequest) {owner : State → State}
    (h : ∀ u, TableOk u.up → TableOk (owner u).up) : Ends s (s.controlRise req owner) := by
  unfold State.controlRise
  split
  · exact .refl s
  split
  · refine .settled fun ok => ?_
    unfold State.dealWith
    split
    · exact h _ ok
    all_goals exact ok
  · exact .kept rfl rfl

/-- All that a command can do to the Upstream Port. -/
theorem exec_ends {i : Instr} {s t : State} (h : exec i s = .next t) : Ends s t := by
  cases i <;> obtain rfl := Host.Outcome.next.inj h
  case acceptRequest r => exact .settled fun ok => present_tableOk ok r
  case openFrame => exact controlRise_ends s _ fun _ => dealOpen_tableOk
  case commit => exact controlRise_ends s _ fun _ => dealCommit_tableOk
  case abort => exact controlRise_ends s _ fun _ ok => requestAbort_tableOk ok _ _
  case abortAll => exact controlRise_ends s _ fun _ ok => requestAbort_tableOk ok _ _
  case takeFault line =>
    split
    · exact .settled fun ok => actOnFault_tableOk (by exact ok) _ _
    · exact .refl s
  case trefPulse =>
    split
    · exact .settled countPulse_tableOk
    · exact .refl s
  case holdExpired =>
    split
    · exact .settled (expireHold_moves s).tableOk
    · exact .refl s
  case deadlineExpiry =>
    split
    · exact .settled expireDeadline_tableOk
    · exact .refl s
  case hardReset c => exact .settled fun _ => hardReset_tableOk s c
  case leaveSetup =>
    repeat' split
    · exact .kept rfl rfl
    · exact .settled id
    all_goals exact .kept rfl rfl
  case recover =>
    repeat' split
    · exact .settled id
    all_goals exact .kept rfl rfl
  case forceAbort operand =>
    repeat' split
    · exact .settled fun ok => actOnFault_tableOk (s := s.reply .ack []) ok _ _
    all_goals exact .kept rfl rfl
  case barrierCompletion =>
    split
    · exact .settled fun ok => (completeBarrier_moves ok).tableOk ok
    · exact .refl s
  case captureGrant =>
    split
    · exact .settled (grantCaptures_moves s).tableOk
    · exact .refl s
  case passthroughResponse tag resp =>
    split
    · exact .settled fun ok => answerPassthrough_tableOk (s := s.freeDownSlot tag) ok _ _
    · exact .refl s
  case preImageResponse tag resp =>
    split
    · exact .settled fun ok => completeCapture_tableOk (s := s.freeDownSlot tag) ok _ _
    · exact .refl s
  case logWriterStart =>
    split
    · exact .settled id
    · exact .refl s
  case logWriteResponse tag resp =>
    split
    · exact .settled fun ok => countLogAnswer_tableOk (s := s.freeDownSlot tag) ok _
    · exact .settled fun ok => countLogAnswer_tableOk (s := s.freeDownSlot tag) ok _
    · exact .refl s
  case quiesceEnd =>
    split
    · exact .settled id
    · exact .refl s
  case unwindStep =>
    split
    · exact .settled (tableOk_of_up_eq (beginStep_up s))
    · exact .refl s
  case unwindReadResponse tag resp =>
    split
    · exact .settled fun ok => recordRead_tableOk (s := s.freeDownSlot tag) ok _ _
    · exact .settled fun ok => recordRead_tableOk (s := s.freeDownSlot tag) ok _ _
    · exact .refl s
  case writeBackResponse tag resp =>
    split
    · exact .settled fun ok => recordWriteBack_tableOk (s := s.freeDownSlot tag) ok _
    · exact .refl s
  case rollbackCompletion =>
    split
    · exact .settled fun ok => (completeRollback_moves ok).tableOk ok
    · exact .refl s
  case downstreamGrant =>
    split
    · exact .moved (arbitrate_moves s) (arbitrate_keeps s).rstN
    · exact .refl s
  case discardedResponse tag =>
    split
    · exact .settled id
    · exact .settled id
    all_goals exact .refl s
  case sweepClear =>
    split
    · unfold State.sweepOne
      dsimp only
      split <;> exact .kept rfl rfl
    · exact .refl s
  case rstNRise =>
    split
    · exact .refl s
    · exact .settled id
  -- the commands that leave the Upstream Port and settle nothing
  all_goals repeat' split
  all_goals exact .kept rfl rfl

/-- All that a step can do to the Upstream Port: what its command does, or nothing. -/
theorem step_ends {s t : State} (h : step s = .next t) : Ends s t := by
  unfold step at h
  split at h
  · split at h
    · obtain rfl := Host.Outcome.next.inj h
      exact .refl s
    · rename_i e rest _
      rcases execEdge_cases e { s with wire := rest } with ⟨i, _, _, _, -, -, -, -, -, he⟩ | he | ⟨_, _, he⟩
      · exact .of_queue (s' := { s with wire := rest }) rfl rfl (exec_ends (he ▸ h))
      · exact .of_queue (s' := { s with wire := rest }) rfl rfl (exec_ends (he ▸ h))
      · obtain rfl := Host.Outcome.next.inj (he.symm.trans h)
        exact .kept rfl rfl
  · rename_i c rest _
    exact .of_queue (s' := { s with pending := rest }) rfl rfl (exec_ends h)

/-- Settles O12: every command's direct effect and every event's consequences keep the table in order. -/
theorem stepKeepsTransactionTable : Obligations.StepKeepsTransactionTable := fun _ _ ok h =>
  tableOk_iff.2 ((step_ends h).tableOk (tableOk_iff.1 ok))

/-- Settles O11: a step either ends with a settled event, which uses every turn, or makes moves that leave none unused. -/
theorem stepLeavesNoTurnUnused : Obligations.StepLeavesNoTurnUnused := fun _ _ ok hd h =>
  (step_ends h).upstreamDone (tableOk_iff.1 ok) hd

end Sys2Proof.AccessPath
end

/-! ## Guarded windows: classes (Table 2.2) and map indices (R20 to R24) -/

section
namespace Sys2Proof.AccessPath

open Sys2Proof Sys2Proof.Machine

/-! ### Lines and windows as numbers -/

theorem lineOf_toNat (a : Addr) : (lineOf a).toNat = a.toNat / 64 * 64 := by
  have ha := a.isLt
  simp only [lineOf, BitVec.toNat_shiftLeft, BitVec.toNat_ushiftRight, Nat.shiftLeft_eq, Nat.shiftRight_eq_div_pow]
  omega

theorem contains_iff {w : Window} {line : Addr} :
    w.contains line = true ↔
      w.enable = true ∧ w.basePage.toNat ≤ line.toNat / 4096 ∧ line.toNat / 4096 < w.basePage.toNat + w.pages := by
  simp only [Window.contains, Bool.and_eq_true, decide_eq_true_eq, and_assoc]
  rfl

theorem inLog_iff {t : WindowTable} {line : Addr} :
    t.inLog line = true ↔
      t.logBase.toNat * 4096 ≤ line.toNat ∧ line.toNat < t.logBase.toNat * 4096 + t.capacity * 128 := by
  simp only [WindowTable.inLog, Bool.and_eq_true, decide_eq_true_eq]
  rfl

theorem malformed_iff {r : Request} :
    malformed r = true ↔ r.length = 0 ∨ 8 < r.length ∨ 8 < r.addr.toNat % 64 / 8 + r.length := by
  simp only [malformed, Bool.or_eq_true, beq_iff_eq, decide_eq_true_eq, or_assoc]
  rfl

/-- The window that the search finds holds the line, and gives its map index (R24). -/
theorem findWindow_some {line : Addr} {ws : List Window} {n m i : Nat} (h : findWindow line n ws = some (m, i)) :
    ∃ k w, m = n + k ∧ ws[k]? = some w ∧ w.contains line = true ∧ i = w.mapIndexOf line := by
  induction ws generalizing n with
  | nil => simp [findWindow] at h
  | cons w ws ih =>
    unfold findWindow at h
    split at h
    · rename_i hc
      simp only [Option.some.injEq, Prod.mk.injEq] at h
      obtain ⟨rfl, rfl⟩ := h
      exact ⟨0, w, rfl, rfl, hc, rfl⟩
    · obtain ⟨k, v, rfl, hk, hc, hi⟩ := ih h
      exact ⟨k + 1, v, by omega, by simpa using hk, hc, hi⟩

theorem findWindow_eq_none {line : Addr} {ws : List Window} {n : Nat} :
    findWindow line n ws = none ↔ ∀ w ∈ ws, w.contains line = false := by
  induction ws generalizing n with
  | nil => simp [findWindow]
  | cons w ws ih =>
    unfold findWindow
    cases hc : w.contains line with
    | true => simp [hc]
    | false => simp [hc, ih]

/-! ### The class of a request (R23, R24) -/

theorem classify_of_malformed {st : OpState} {t : WindowTable} {r : Request} (h : malformed r = true) :
    classify st t r = .malformed := by
  simp [classify, h]

theorem classify_setup {t : WindowTable} {r : Request} (h : malformed r = false) : classify .setup t r = .plain := by
  simp [classify, h]

/-- Outside SETUP the class of a well-formed request is that of its line. -/
theorem classify_of_ne_setup {st : OpState} {t : WindowTable} {r : Request} (h : malformed r = false)
    (hst : st ≠ .setup) :
    (∀ w i, findWindow (lineOf r.addr) 0 t.windows = some (w, i) → classify st t r = .guarded w i) ∧
      (findWindow (lineOf r.addr) 0 t.windows = none →
        classify st t r = if t.inLog (lineOf r.addr) then .loghit else .plain) := by
  cases st with
  | setup => exact absurd rfl hst
  | active => exact ⟨fun w i hf => by simp [classify, h, hf], fun hf => by simp [classify, h, hf]⟩
  | failed => exact ⟨fun w i hf => by simp [classify, h, hf], fun hf => by simp [classify, h, hf]⟩

/-- Settles O8, row by row: the search of the Window Table finds the window that holds the line, or none does. -/
theorem classFollowsTable22 : Obligations.ClassFollowsTable22 := by
  intro st t r group line bad inWindow inLog
  have hline : (lineOf r.addr).toNat = line := lineOf_toNat r.addr
  have hbad : ¬bad → malformed r = false := fun h => by simpa using mt malformed_iff.1 h
  have hwin : ∀ w, w.contains (lineOf r.addr) = true ↔ inWindow w := fun w => by rw [contains_iff, hline]
  have hnone : (∀ w ∈ t.windows, ¬inWindow w) → findWindow (lineOf r.addr) 0 t.windows = none := fun h =>
    findWindow_eq_none.2 fun w hw => by simpa using mt (hwin w).1 (h w hw)
  refine ⟨fun h => classify_of_malformed (malformed_iff.2 h), fun h hst => hst ▸ classify_setup (hbad h), ?_, ?_, ?_⟩
  · rintro h hst ⟨w, hw, hin⟩
    cases hf : findWindow (lineOf r.addr) 0 t.windows with
    | none => simpa [(hwin w).2 hin] using findWindow_eq_none.1 hf w hw
    | some p =>
      obtain ⟨k, v, hk, hget, hc, hi⟩ := findWindow_some hf
      refine ⟨p.1, v, p.2, (classify_of_ne_setup (hbad h) hst).1 _ _ hf, by simpa [hk] using hget, (hwin v).1 hc, ?_⟩
      rw [hi, Window.mapIndexOf, hline, pageBase]
  · intro h hst hno hlog
    rw [(classify_of_ne_setup (hbad h) hst).2 (hnone hno), if_pos (inLog_iff.2 (by rwa [hline]))]
  · intro h hst hno hlog
    rw [(classify_of_ne_setup (hbad h) hst).2 (hnone hno), if_neg (mt inLog_iff.1 (by rwa [hline]))]

/-! ### Map offsets (R21) -/

/-- The footprint of a window in the Capture Map: 64 entries for each page, none while it is disabled (R21). -/
def footprint (w : Window) : Nat := if w.enable then 64 * w.pages else 0

/-- Offsets do not change footprints. -/
theorem map_footprint_assignOffsets (off : Nat) (ws : List Window) :
    (assignOffsets off ws).map footprint = ws.map footprint := by
  induction ws generalizing off with
  | nil => rfl
  | cons w ws ih =>
    unfold assignOffsets
    split
    · exact congrArg (footprint w :: ·) (ih _)
    · exact congrArg (footprint w :: ·) (ih _)

/-- What is assigned to a window is its offset alone: the footprints of the windows before it, after the first offset; a
disabled window has offset 0 (R21). -/
theorem assignOffsets_getElem? (off : Nat) (ws : List Window) (k : Nat) :
    (assignOffsets off ws)[k]? =
      ws[k]?.map fun w =>
        { w with mapOffset := if w.enable then off + ((ws.map footprint).take k).sum else 0 } := by
  induction ws generalizing off k with
  | nil => simp [assignOffsets]
  | cons v ws ih =>
    unfold assignOffsets
    cases k with
    | zero => cases hv : v.enable <;> simp [hv]
    | succ k => cases hv : v.enable <;> simp [hv, ih, footprint, Nat.add_assoc]

/-- In a list of footprints, one that stands before place `l` lies within the sum of those before `l`. -/
theorem sum_take_add_le {l : List Nat} {k n x : Nat} (hx : l[k]? = some x) (hkn : k < n) :
    (l.take k).sum + x ≤ (l.take n).sum := by
  have hsucc : (l.take (k + 1)).sum = (l.take k).sum + x := by simp [List.take_add_one, hx]
  have hsub : (l.take (k + 1)).Sublist (l.take n) := List.take_sublist_take_left hkn
  exact hsucc ▸ hsub.sum_le_sum fun _ _ => Nat.zero_le _

theorem sum_footprint (ws : List Window) :
    (ws.map footprint).sum = 64 * ((ws.filter Window.enable).map Window.pages).sum := by
  induction ws with
  | nil => rfl
  | cons w ws ih => cases hw : w.enable <;> simp [hw, ih, footprint, Nat.mul_add]

/-! ### Layouts that LEAVE_SETUP accepts (R139) -/

/-- The checks on which the map and the log region rest: at most 512 pages in all, and no window that meets the log region. -/
theorem checks_of_validateSetup {setup : List ItemValue} (h : validateSetup setup = none) :
    (((loadWindows setup).windows.filter Window.enable).map Window.pages).sum ≤ 512 ∧
      ∀ w ∈ (loadWindows setup).windows, w.enable = true → w.meetsLog (loadWindows setup) = false := by
  unfold validateSetup at h
  dsimp only at h
  iterate 3 (split at h; · cases h)
  split at h
  · cases h
  rename_i hpages
  iterate 2 (split at h; · cases h)
  split at h
  · cases h
  rename_i hlog
  refine ⟨Nat.not_lt.1 hpages, fun w hw he => ?_⟩
  simpa using fun hm => hlog (List.any_eq_true.2 ⟨w, List.mem_filter.2 ⟨hw, he⟩, hm⟩)

/-- A line found in a window of a loaded layout: the window, its place, and where the line's map index lies. -/
structure FoundAt (setup : List ItemValue) (line : Addr) (k i : Nat) (w : Window) : Prop where
  place : (loadWindows setup).windows[k]? = some w
  holds : w.contains line = true
  index : i = w.mapIndexOf line
  offset : w.mapOffset = (((loadWindows setup).windows.map footprint).take k).sum

theorem foundAt_of_findWindow {setup : List ItemValue} {line : Addr} {k i : Nat}
    (h : findWindow line 0 (loadWindows setup).windows = some (k, i)) : ∃ w, FoundAt setup line k i w := by
  obtain ⟨k', w, hk, hget, hc, hi⟩ := findWindow_some h
  obtain rfl : k = k' := by omega
  refine ⟨w, hget, hc, hi, ?_⟩
  have hplace := hget
  rw [loadWindows, assignOffsets_getElem?, Option.map_eq_some_iff] at hplace
  obtain ⟨v, -, rfl⟩ := hplace
  have henable : v.enable = true := (contains_iff.1 hc).1
  simp [loadWindows, map_footprint_assignOffsets, henable]

namespace FoundAt

variable {setup : List ItemValue} {line : Addr} {k i : Nat} {w : Window}

/-- The map index lies in the window's own part of the map (R21). -/
theorem index_lt (h : FoundAt setup line k i w) : w.mapOffset ≤ i ∧ i < w.mapOffset + footprint w := by
  obtain ⟨he, hlo, hhi⟩ := contains_iff.1 h.holds
  have hi := h.index
  simp only [Window.mapIndexOf, pageBase] at hi
  simp only [footprint, he, if_true]
  omega

theorem footprint_place (h : FoundAt setup line k i w) :
    ((loadWindows setup).windows.map footprint)[k]? = some (footprint w) := by
  simp [h.place]

/-- The parts of the map of two windows follow one another in the order of the windows. -/
theorem lt_of_place_lt (h : FoundAt setup line k i w) {line' : Addr} {l j : Nat} {v : Window}
    (h' : FoundAt setup line' l j v) (hkl : k < l) : i < j := by
  have hsum := sum_take_add_le h.footprint_place hkl
  have hi := h.index_lt
  have hj := h'.index_lt
  rw [← h.offset, ← h'.offset] at hsum
  omega

/-- The parts of all windows lie within the map (R139: at most 512 pages). -/
theorem index_lt_mapEntries (h : FoundAt setup line k i w) (hs : validateSetup setup = none) : i < 32768 := by
  have hk : k < ((loadWindows setup).windows.map footprint).length := (List.getElem?_eq_some_iff.1 h.footprint_place).1
  have hsum := sum_take_add_le h.footprint_place hk
  rw [← h.offset, List.take_length, sum_footprint] at hsum
  have hpages := (checks_of_validateSetup hs).1
  have hi := h.index_lt
  omega

/-- A guarded line lies outside the log region, since its window does (R139). -/
theorem not_inLog (h : FoundAt setup line k i w) (hs : validateSetup setup = none) :
    (loadWindows setup).inLog line = false := by
  obtain ⟨he, hlo, hhi⟩ := contains_iff.1 h.holds
  have hmeets := (checks_of_validateSetup hs).2 w (List.mem_of_getElem? h.place) he
  rw [Bool.eq_false_iff] at hmeets ⊢
  intro hlog
  obtain ⟨hstart, hend⟩ := inLog_iff.1 hlog
  apply hmeets
  simp only [Window.meetsLog, Bool.and_eq_true, decide_eq_true_eq]
  simp only [WindowTable.logEnd, WindowTable.logStart, pageBase]
  omega

end FoundAt

/-- Settles O7: the windows' parts of the map are disjoint, and within a window the index counts the lines. -/
theorem guardedLinesHaveTheirOwnMapEntries : Obligations.GuardedLinesHaveTheirOwnMapEntries := by
  intro setup hs a b k l i j ha hb
  obtain ⟨w, hw⟩ := foundAt_of_findWindow ha
  obtain ⟨v, hv⟩ := foundAt_of_findWindow hb
  refine ⟨hw.index_lt_mapEntries hs, hw.not_inLog hs, fun hij => ?_⟩
  rcases Nat.lt_trichotomy k l with hkl | rfl | hkl
  · exact absurd hij (hw.lt_of_place_lt hv hkl).ne
  · obtain rfl : w = v := Option.some.inj (hw.place.symm.trans hv.place)
    obtain ⟨-, hloa, -⟩ := contains_iff.1 hw.holds
    obtain ⟨-, hlob, -⟩ := contains_iff.1 hv.holds
    have hi := hw.index
    have hj := hv.index
    simp only [Window.mapIndexOf, pageBase] at hi hj
    have hla := lineOf_toNat a
    have hlb := lineOf_toNat b
    apply BitVec.eq_of_toNat_eq
    omega
  · exact absurd hij (hv.lt_of_place_lt hw hkl).ne'

end Sys2Proof.AccessPath
end

/-! ## The acceptance of a request (R27 to R33, R41, R46 to R48)

ACCEPT_REQUEST leads to the state that `State.accept` answers, and where that needs log space, to its grants
(`acceptRequest_gives`). The statements then say what `State.accept` answers, class by class. -/

section
namespace Sys2Proof.AccessPath

open Sys2Proof Sys2Proof.Machine

/-! ### The event of an acceptance -/

/-- An event settled outside a hard reset gives the state that it settles. -/
theorem gives_of_settle {o : Host.Outcome State Fault Refusal} {u : State} (h : o = .next u.settle)
    (hr : u.rstN = true) : Effect.Gives o u :=
  ⟨h, fun hc => h.trans (congrArg Host.Outcome.next (settle_of_calm hr hc))⟩

/-- Events with the same turns, acceptance and first grants are the same. -/
theorem settle_congr {s t : State} (hs : s.rstN = true) (ht : t.rstN = true)
    (h : s.wake.acceptPresented.grantCaptures = t.wake.acceptPresented.grantCaptures) : s.settle = t.settle := by
  simp only [State.settle, hs, ht, if_true, h]

theorem present_of_none {s : State} {r : Request} (h : s.up.presented = none) :
    s.present r = { s with up.presented := some r } := by
  unfold State.present
  rw [h]

/-- A request that the table can take, presented where no turn is unused. -/
structure Acceptable (s : State) (r : Request) : Prop where
  rstN : s.rstN = true
  presented : s.up.presented = none
  turns : s.turnsSettled = true
  room : s.up.txns.length < 16
  fresh : ∀ e ∈ s.up.txns, e.tag ≠ r.tag

namespace Acceptable

variable {s u : State} {r : Request}

theorem tag_not_mem (h : Acceptable s r) : r.tag ∉ s.up.txns.map Txn.tag := by
  simpa using h.fresh

theorem acceptPresented (h : Acceptable s r) : (s.present r).acceptPresented = s.accept r := by
  have hc : State.canAccept { s with up.presented := some r } r = true := canAccept_iff.2 ⟨h.room, h.tag_not_mem⟩
  have hs : ({ s with up.presented := none } : State) = s := by
    rw [← h.presented]
  rw [present_of_none h.presented]
  unfold State.acceptPresented
  dsimp only
  rw [if_pos hc]
  exact congrArg (State.accept · r) hs

/-- The event leads to a state `u` that moves alone part from the accepted state, and that has the same grants. -/
theorem gives (h : Acceptable s r) (hm : Moves (s.accept r) u)
    (hg : u.grantCaptures = (s.accept r).grantCaptures) (hu : u.rstN = true) :
    Effect.Gives (exec (.acceptRequest r) s) u := by
  have ha := accept_accepts h.presented h.room h.tag_not_mem
  have hturns : u.turnsSettled = true :=
    turnsSettled_iff.2 (hm.turnsUsed (ha.turnsUsed (turnsSettled_iff.1 h.turns)))
  have hnothing : u.nothingToAccept = true := nothingToAccept_iff.2 (hm.nothingToAccept ha.nothing)
  have hp : (s.present r).turnsSettled = true := by rw [present_of_none h.presented]; exact h.turns
  have hr : (s.present r).rstN = true := by rw [present_of_none h.presented]; exact h.rstN
  have hsettle : (s.present r).settle = u.settle := by
    refine settle_congr hr hu ?_
    rw [wake_of_turnsSettled hp, h.acceptPresented, wake_of_turnsSettled hturns, acceptPresented_of_nothing hnothing, hg]
  exact gives_of_settle (congrArg Host.Outcome.next hsettle) hu

/-- The event leads to the accepted state. -/
theorem gives_accept (h : Acceptable s r) (hu : s.accept r = u) : Effect.Gives (exec (.acceptRequest r) s) u :=
  h.gives (hu ▸ .refl _) (by rw [hu]) (hu ▸ (accept_keeps s r).rstN.trans h.rstN)

end Acceptable

/-! ### What the acceptance answers, class by class -/

section classes

variable {s : State} {r : Request}

/-- The state with the entry of `r` in the table, before its first stage. -/
def withEntry (s : State) (r : Request) (cls : AccessClass) : State :=
  { s with up := enrolled s.up (Effect.entry s r cls .waitLine) }

theorem newTxn_eq_entry (s : State) (r : Request) (cls : AccessClass) :
    s.newTxn r cls = Effect.entry s r cls .waitLine := by
  unfold State.newTxn Effect.entry
  cases r.dir <;> rfl

theorem accept_of_plain (h : classify s.mode.state s.win r = .plain) :
    s.accept r = s.enroll (Effect.entry s r .plain .waitLine) := by
  simp [State.accept, h, newTxn_eq_entry]

theorem accept_of_guarded {w i : Nat} (h : classify s.mode.state s.win r = .guarded w i) (hm : s.mode.state ≠ .failed) :
    s.accept r = s.enroll (Effect.entry s r (.guarded w i) .waitLine) := by
  cases hs : s.mode.state with
  | failed => exact absurd hs hm
  | setup | active => rw [hs] at h; simp [State.accept, hs, h, newTxn_eq_entry]

theorem answerAtAcceptance_eq (code : UpCode) : s.answerAtAcceptance r code = Effect.answeredAtOnce s r code := rfl

@[simp] theorem entry_isGuarded (s : State) (r : Request) (w i : Nat) (st : Stage) :
    (Effect.entry s r (.guarded w i) st).isGuarded = true := rfl

@[simp] theorem entry_isGuarded_plain (s : State) (r : Request) (st : Stage) :
    (Effect.entry s r .plain st).isGuarded = false := rfl

@[simp] theorem entry_isGuardedWrite (s : State) (r : Request) (w i : Nat) (st : Stage) :
    (Effect.entry s r (.guarded w i) st).isGuardedWrite = (r.dir == .write) := rfl

@[simp] theorem entry_isGuardedWrite_plain (s : State) (r : Request) (st : Stage) :
    (Effect.entry s r .plain st).isGuardedWrite = false := rfl

/-- A move of the new entry is a move of it alone, since its tag is new. -/
theorem withEntry_setStage (hp : s.up.presented = none) (hf : ∀ e ∈ s.up.txns, e.tag ≠ r.tag) (cls : AccessClass)
    (st : Stage) : (withEntry s r cls).setStage r.tag st = Effect.accepted s r cls st := by
  have hmap : s.up.txns.map (fun e => if e.tag == r.tag then { e with stage := st } else e) = s.up.txns :=
    (List.map_congr_left fun e he => by simp [hf e he]).trans (List.map_id _)
  have hup : (enrolled s.up (Effect.entry s r cls .waitLine)).setStage r.tag st =
      (Effect.accepted s r cls st).up := by
    simp only [UpstreamPort.setStage, enrolled, List.map_append, List.map_cons, List.map_nil, hmap, hp]
    simp [Effect.accepted, Effect.entry]
  exact congrArg (fun u => { s with up := u }) hup

theorem withEntry_eq_accepted (hp : s.up.presented = none) (cls : AccessClass) :
    withEntry s r cls = Effect.accepted s r cls .waitLine := by
  unfold withEntry Effect.accepted enrolled
  rw [hp]

/-- The new entry has its turn where no entry has its line. -/
theorem withEntry_hasTurn (hl : ∀ e ∈ s.up.txns, e.line ≠ lineOf r.addr) (cls : AccessClass) :
    (withEntry s r cls).hasTurn (Effect.entry s r cls .waitLine) = true := by
  refine hasTurn_iff.2 fun o ho hline => ?_
  rcases List.mem_append.1 ho with ho | ho
  · exact absurd hline (hl o ho)
  · exact (List.mem_singleton.1 ho) ▸ le_rfl

/-- It has not where an older entry has its line. -/
theorem withEntry_not_hasTurn (ho : ∃ e ∈ s.up.txns, e.line = lineOf r.addr) (ha : ∀ e ∈ s.up.txns, e.age < s.up.nextAge)
    (cls : AccessClass) : (withEntry s r cls).hasTurn (Effect.entry s r cls .waitLine) = false := by
  obtain ⟨o, ho, hl⟩ := ho
  refine Bool.eq_false_iff.2 fun h => absurd (ha o ho) (Nat.not_lt.2 ?_)
  exact hasTurn_iff.1 h o (List.mem_append_left _ ho) hl

/-- The entry enters HELD by the rollback (R33). -/
theorem enroll_of_rollingBack {w i : Nat} (hr : s.rollingBack = true) :
    s.enroll (Effect.entry s r (.guarded w i) .waitLine) =
      (withEntry s r (.guarded w i)).setStage r.tag (.held .rollback) := by
  unfold State.enroll
  simp only [entry_isGuarded, hr, Bool.and_self, if_true]
  rfl

/-- The entry enters HELD by the barrier (R32). -/
theorem enroll_of_barrier {w i : Nat} (hr : s.rollingBack = false) (hd : r.dir = .write)
    (hb : s.barrierInFlight = true) :
    s.enroll (Effect.entry s r (.guarded w i) .waitLine) =
      (withEntry s r (.guarded w i)).setStage r.tag (.held .barrier) := by
  unfold State.enroll
  simp only [entry_isGuardedWrite, hr, hd, hb, Bool.and_false, Bool.false_eq_true, if_false, beq_self_eq_true,
    Bool.and_self, if_true]
  rfl

/-- Nothing holds the entry: no rollback a GUARDED one, no barrier a GUARDED write (R32, R33). -/
def NotHeld (s : State) (e : Txn) : Prop :=
  (e.isGuarded && s.rollingBack) = false ∧ (e.isGuardedWrite && s.barrierInFlight) = false

/-- An entry that nothing holds proceeds with its turn and waits for it otherwise (R29, R30). -/
theorem enroll_of_notHeld {cls : AccessClass} (h : NotHeld s (Effect.entry s r cls .waitLine)) :
    s.enroll (Effect.entry s r cls .waitLine) =
      if (withEntry s r cls).hasTurn (Effect.entry s r cls .waitLine) then
        (withEntry s r cls).proceed (Effect.entry s r cls .waitLine)
      else withEntry s r cls := by
  obtain ⟨hr, hb⟩ := h
  unfold State.enroll
  simp only [hr, hb, Bool.false_eq_true, if_false]
  rfl

/-- The new entry is issued (R30). -/
theorem withEntry_issue (hp : s.up.presented = none) (hf : ∀ e ∈ s.up.txns, e.tag ≠ r.tag) (cls : AccessClass) :
    (withEntry s r cls).issue (Effect.entry s r cls .waitLine) = Effect.acceptedAndIssued s r cls := by
  have h := withEntry_setStage hp hf cls .issued
  unfold State.issue
  change ({ ((withEntry s r cls).setStage r.tag .issued).handOver _ with
    frames.barrier := s.frames.barrier.map (·.filter (· != r.tag)) } : State) = _
  rw [h]
  rfl

/-- The new entry joins an empty capture wait list (R31, R46). -/
theorem withEntry_joinWaitList (hp : s.up.presented = none) (hf : ∀ e ∈ s.up.txns, e.tag ≠ r.tag)
    (hw : s.cap.waitList = []) (cls : AccessClass) :
    (withEntry s r cls).joinWaitList (Effect.entry s r cls .waitLine) =
      { Effect.accepted s r cls .capture with cap.waitList := [r.tag] } := by
  have h := withEntry_setStage hp hf cls .capture
  unfold State.joinWaitList
  change ({ (withEntry s r cls).setStage r.tag .capture with
    cap.waitList := insertByAge _ r.tag s.cap.waitList } : State) = _
  rw [h, hw]
  rfl

end classes

/-! ### The capture decision (Table 3.1) -/

section decision

variable {s : State} {i : Nat}

theorem needsCapture_of_noFrame (h : s.frames.stack = []) : s.needsCapture i = false := by
  simp [State.needsCapture, State.top, h]

theorem needsCapture_of_top {f : Frame} (h : s.frames.stack.getLast? = some f) :
    s.needsCapture i = (f.status == .intact && (s.cap.sweep.inFlight || s.cap.map.read i != f.serial)) := by
  have ht : s.top = some f := h
  unfold State.needsCapture
  rw [ht]
  cases hs : f.status <;> simp [hs]

end decision

end Sys2Proof.AccessPath
end

/-! ## The statements about ACCEPT_REQUEST -/

section
namespace Sys2Proof.AccessPath

open Sys2Proof Sys2Proof.Machine

theorem rollingBack_eq_false_iff {s : State} : s.rollingBack = false ↔ s.engine.phase = .idle := by
  simp [State.rollingBack]

theorem rollingBack_iff {s : State} : s.rollingBack = true ↔ s.engine.phase ≠ .idle := by
  simp [State.rollingBack]

/-- A GUARDED request that neither holds is held by nothing. -/
theorem notHeld_guarded {s : State} {r : Request} {w i : Nat} {st : Stage} (hidle : s.engine.phase = .idle)
    (h : r.dir = .read ∨ s.frames.barrier = none) : NotHeld s (Effect.entry s r (.guarded w i) st) := by
  refine ⟨by simp [rollingBack_eq_false_iff.2 hidle], ?_⟩
  rcases h with h | h
  · simp [h]
  · simp [State.barrierInFlight, h]

theorem notHeld_plain (s : State) (r : Request) (st : Stage) : NotHeld s (Effect.entry s r .plain st) :=
  ⟨by simp, by simp⟩

/-- An entry that nothing holds and that Table 3.1 gives no capture is issued with its turn (R30, R31). -/
theorem enroll_issues {s : State} {r : Request} {cls : AccessClass} (ha : Acceptable s r)
    (hl : ∀ e ∈ s.up.txns, e.line ≠ lineOf r.addr) (hn : NotHeld s (Effect.entry s r cls .waitLine))
    (hc : (Effect.entry s r cls .waitLine).isGuardedWrite = true →
      s.needsCapture (Effect.entry s r cls .waitLine).mapIndex = false) :
    s.enroll (Effect.entry s r cls .waitLine) = Effect.acceptedAndIssued s r cls := by
  rw [enroll_of_notHeld hn, if_pos (withEntry_hasTurn hl cls), ← withEntry_issue ha.presented ha.fresh cls]
  unfold State.proceed
  split
  · rename_i hg
    unfold State.judge
    rw [if_neg]
    exact Bool.not_eq_true _ ▸ hc hg
  · rfl

/-- Settles O18: the entry is made, nothing holds it, it has its turn, and Table 3.1 gives it no capture. -/
theorem acceptedRequestIsIssued : Obligations.AcceptedRequestIsIssued := by
  intro r cls s hr hp ht hroom hnew hcls hcase
  have ha : Acceptable s r := ⟨hr, hp, ht, hroom, fun e he => (hnew e he).1⟩
  have hl : ∀ e ∈ s.up.txns, e.line ≠ lineOf r.addr := fun e he => (hnew e he).2
  refine ha.gives_accept ?_
  rcases hcase with rfl | ⟨w, i, rfl, hm, hidle, hdir⟩
  · rw [accept_of_plain hcls]
    exact enroll_issues ha hl (notHeld_plain ..) (by simp)
  · rw [accept_of_guarded hcls hm]
    refine enroll_issues ha hl (notHeld_guarded hidle (hdir.imp_right And.left)) fun hw => ?_
    rcases hdir with hread | ⟨-, hempty | ⟨f, hf, hdecision⟩⟩
    · simp [hread] at hw
    · exact needsCapture_of_noFrame hempty
    · rw [needsCapture_of_top hf]
      rcases hdecision with hbroken | ⟨hsweep, hread⟩
      · simp [hbroken]
      · simp [hsweep, show s.cap.map.read (Effect.entry s r (.guarded w i) .waitLine).mapIndex = f.serial from hread]

/-- Settles O19: the class gives the answer at acceptance; a request that cannot be accepted is presented and stays. -/
theorem requestAnsweredAtOnceOrKeptPresented : Obligations.RequestAnsweredAtOnceOrKeptPresented := by
  intro r s hr hp ht
  refine ⟨fun hroom hfresh code hcase => ?_, fun _ => ?_⟩
  · have ha : Acceptable s r := ⟨hr, hp, ht, hroom, hfresh⟩
    refine ha.gives_accept ?_
    rw [← answerAtAcceptance_eq]
    unfold State.accept
    rcases hcase with ⟨hcls, rfl⟩ | ⟨hcls, rfl⟩ | ⟨hfailed, ⟨w, i, hcls⟩, rfl⟩
    · simp only [hcls]
    · simp only [hcls]
    · simp only [hcls]
      rw [hfailed]
  · exact gives_of_settle (congrArg (fun u => Host.Outcome.next (State.settle u)) (present_of_none hp)) hr

/-- Settles O21: a rollback, then a barrier, then an older entry on the line keeps the new entry from proceeding. -/
theorem acceptedRequestIsHeldOrWaitsItsTurn : Obligations.AcceptedRequestIsHeldOrWaitsItsTurn := by
  intro r cls st s hr hp ht hroom hnew hcls hcase
  have ha : Acceptable s r := ⟨hr, hp, ht, hroom, fun e he => (hnew e he).1⟩
  have hage : ∀ e ∈ s.up.txns, e.age < s.up.nextAge := fun e he => (hnew e he).2
  have hwait : NotHeld s (Effect.entry s r cls .waitLine) → (∃ e ∈ s.up.txns, e.line = lineOf r.addr) →
      s.enroll (Effect.entry s r cls .waitLine) = Effect.accepted s r cls .waitLine := fun hn hline => by
    rw [enroll_of_notHeld hn, withEntry_not_hasTurn hline hage cls, withEntry_eq_accepted hp]
    rfl
  refine ha.gives_accept ?_
  rcases hcase with ⟨⟨w, i, rfl⟩, hm, ⟨hphase, rfl⟩ | ⟨hidle, hdir, hbarrier, rfl⟩⟩ | ⟨hheld, hline, rfl⟩
  · rw [accept_of_guarded hcls hm, enroll_of_rollingBack (rollingBack_iff.2 hphase), withEntry_setStage hp ha.fresh]
  · have hb : s.barrierInFlight = true := Option.isSome_iff_ne_none.2 hbarrier
    rw [accept_of_guarded hcls hm, enroll_of_barrier (rollingBack_eq_false_iff.2 hidle) hdir hb,
      withEntry_setStage hp ha.fresh]
  · rcases hheld with rfl | ⟨⟨w, i, rfl⟩, hm, hidle, hdir⟩
    · rw [accept_of_plain hcls, hwait (notHeld_plain ..) hline]
    · rw [accept_of_guarded hcls hm, hwait (notHeld_guarded hidle hdir) hline]

end Sys2Proof.AccessPath
end

/-! ## The grants of captures at an acceptance (R46 to R48, R76, R77) -/

section
namespace Sys2Proof.AccessPath

open Sys2Proof Sys2Proof.Machine

/-! ### The grants of an event come to an end -/

section ending

variable {s : State}

/-- The frames that a refusal of log space can still break. -/
def intactFrames (s : State) : Nat := s.frames.stack.countP (·.status == .intact)

/-- Every write on the wait list is in the table. -/
def WaitListInTable (s : State) : Prop := ∀ t ∈ s.cap.waitList, t ∈ s.up.txns.map Txn.tag

theorem findTxn_of_mem {t : Tag} (h : t ∈ s.up.txns.map Txn.tag) : ∃ e, s.findTxn t = some e := by
  obtain ⟨e, he, rfl⟩ := List.mem_map.1 h
  exact Option.isSome_iff_exists.1 (List.find?_isSome.2 ⟨e, he, beq_self_eq_true _⟩)

/-- The stack stays and the wait list loses writes at most. -/
structure Rejudges (s t : State) : Prop where
  stack : t.frames.stack = s.frames.stack
  waitList : t.cap.waitList.Sublist s.cap.waitList

theorem Rejudges.refl (s : State) : Rejudges s s := ⟨rfl, .refl _⟩

theorem Rejudges.trans {t u : State} (h : Rejudges s t) (k : Rejudges t u) : Rejudges s u :=
  ⟨k.stack.trans h.stack, k.waitList.trans h.waitList⟩

theorem rejudgeOne_rejudges (s : State) (t : Tag) : Rejudges s (s.rejudgeOne t) := by
  unfold State.rejudgeOne
  split
  · exact .refl s
  · split
    · exact .refl s
    · exact ⟨rfl, List.filter_sublist⟩

theorem foldl_rejudgeOne_rejudges (l : List Tag) (s : State) : Rejudges s (l.foldl State.rejudgeOne s) := by
  induction l generalizing s with
  | nil => exact .refl s
  | cons t l ih => exact (rejudgeOne_rejudges s t).trans (ih _)

theorem rejudge_rejudges (s : State) : Rejudges s s.rejudge := by
  have h := foldl_rejudgeOne_rejudges s.cap.waitList s
  unfold State.rejudge
  dsimp only
  split
  · exact ⟨h.stack, h.waitList⟩
  · exact h

theorem reclaim_rejudges (s : State) (q : Seq) : Rejudges s (s.reclaim q) := by
  unfold State.reclaim
  dsimp only
  split
  · exact ⟨rfl, .refl _⟩
  · exact ⟨rfl, .refl _⟩

/-- A break takes one INTACT frame, where there is one, and puts no write on the wait list (R15, R43). -/
theorem breakLowest_breaks (s : State) (c : BreakCause) (h : 0 < intactFrames s) :
    intactFrames (s.breakLowest c) < intactFrames s ∧ (s.breakLowest c).cap.waitList.Sublist s.cap.waitList := by
  have hsplit : intactFrames s =
      (s.frames.stack.takeWhile (·.status == .broken)).countP (·.status == .intact) +
        (s.frames.stack.dropWhile (·.status == .broken)).countP (·.status == .intact) := by
    rw [← List.countP_append, List.takeWhile_append_dropWhile]
    rfl
  have hbelow : (s.frames.stack.takeWhile (·.status == .broken)).countP (·.status == .intact) = 0 := by
    refine List.countP_eq_zero.2 fun f hf => ?_
    have := List.mem_takeWhile_imp hf
    simp_all
  unfold State.breakLowest
  split
  · rename_i hd
    rw [hd] at hsplit
    simp_all
  · rename_i f above hd
    have hf : f.status = .intact := by
      have := List.head?_dropWhile_not (fun g : Frame => g.status == .broken) s.frames.stack
      cases hs : f.status <;> simp_all
    rw [hd, hbelow] at hsplit
    dsimp only
    have key : ∀ (stack : List Frame) (q : Seq) (t : State),
        stack = s.frames.stack.takeWhile (·.status == .broken) ++ { f with status := .broken } :: above →
        Rejudges ((({ s with frames.stack := stack } : State).reclaim q).post (.frameBroken c) f.serial) t →
          intactFrames t < intactFrames s ∧ t.cap.waitList.Sublist s.cap.waitList := fun stack q t hstack hj => by
      have hr := reclaim_rejudges { s with frames.stack := stack } q
      refine ⟨?_, hj.waitList.trans hr.waitList⟩
      have ht : t.frames.stack = stack := hj.stack.trans hr.stack
      unfold intactFrames at hsplit ⊢
      rw [ht, hstack, hsplit, List.countP_append, hbelow]
      simp [hf]
    split
    · exact key _ _ _ rfl (rejudge_rejudges _)
    · exact key _ _ _ rfl (.refl _)

/-- A grant takes the oldest write off the wait list. -/
theorem grantOldest_waitList (hw : WaitListInTable s) (hs : s.cap.slots.any Option.isNone = true) :
    s.grantOldest.cap.waitList = s.cap.waitList.tail := by
  unfold State.grantOldest
  split
  · rename_i h
    rw [h]
    rfl
  · rename_i t rest h
    obtain ⟨e, he⟩ := findTxn_of_mem (hw t (by simp [h]))
    obtain ⟨i, hi⟩ : ∃ i, s.cap.slots.findIdx? Option.isNone = some i := by
      refine Option.isSome_iff_exists.1 ?_
      rw [List.findIdx?_isSome]
      exact hs
    simp [he, hi, h]

theorem canAsk_iff :
    s.canAsk = true ↔ s.rstN = true ∧ s.rollingBack = false ∧ s.topIntact = true ∧
      s.cap.slots.any Option.isNone = true ∧ s.log.staging.length < 8 := by
  simp only [State.canAsk, Bool.and_eq_true, decide_eq_true_eq, Bool.not_eq_true', and_assoc]
  rfl

theorem intactFrames_pos (h : s.topIntact = true) : 0 < intactFrames s := by
  unfold State.topIntact State.top at h
  split at h
  · rename_i f hf
    exact List.countP_pos_iff.2 ⟨f, List.mem_of_getLast? hf, h⟩
  · cases h

/-- With a round for each waiting write and each INTACT frame, and one more, the grants leave none to make. -/
theorem grantLoop_ends (n : Nat) (hw : WaitListInTable s) (hn : s.cap.waitList.length + intactFrames s < n) :
    (State.grantLoop n false s).nothingToGrant = true := by
  induction n generalizing s with
  | zero => omega
  | succ n ih =>
    unfold State.grantLoop
    split
    · rename_i h
      simp [State.nothingToGrant, h]
    rename_i h
    simp only [Bool.or_eq_true, Bool.not_eq_true', not_or, Bool.not_eq_false, List.isEmpty_iff] at h
    obtain ⟨hne, hask⟩ := h
    obtain ⟨-, -, htop, hslots, -⟩ := canAsk_iff.1 hask
    split
    · have hg := grantOldest_waitList hw hslots
      have hlen := List.length_pos_iff.2 hne
      have hstack : intactFrames s.grantOldest = intactFrames s := by
        unfold State.grantOldest
        split
        · rfl
        · split <;> rfl
      refine ih (fun t ht => ?_) ?_
      · rw [grantOldest_up]
        exact hw t (List.mem_of_mem_tail (hg ▸ ht))
      · rw [hg, hstack, List.length_tail]
        omega
    rename_i hfull
    simp only [Bool.false_eq_true, if_false]
    split
    · obtain ⟨hless, hsub⟩ := breakLowest_breaks s .logFull (intactFrames_pos htop)
      refine ih (fun t ht => ?_) ?_
      · rw [(breakLowest_moves s .logFull).sameEntries.tags_eq]
        exact hw t (hsub.subset ht)
      · have := hsub.length_le
        omega
    · rename_i hwait
      have hrun : (if s.log.hold.running = true then s.log.hold else { running := true, value := 0 }).running = true := by
        split <;> simp [*]
      have hcap : s.win.capacity ≤ s.startHold.logCount := Nat.not_lt.1 hfull
      simp [State.nothingToGrant, hwait, hcap, hrun]

theorem grantCaptures_ends (hw : WaitListInTable s) : s.grantCaptures.nothingToGrant = true := by
  refine grantLoop_ends _ hw ?_
  have : intactFrames s ≤ s.depth := List.countP_le_length
  unfold State.grantRounds
  omega

end ending

/-! ### A guarded write that needs a capture -/

/-- A request that is accepted as a GUARDED write with its turn, that nothing holds and that Table 3.1 gives a capture, with
no other write waiting, a FREE slot `k` and a staging entry to be had; `f` is the top frame. -/
structure CaptureDue (s : State) (r : Request) (w i k : Nat) (f : Frame) : Prop where
  acceptable : Acceptable s r
  line : ∀ e ∈ s.up.txns, e.line ≠ lineOf r.addr
  cls : classify s.mode.state s.win r = .guarded w i
  state : s.mode.state ≠ .failed
  dir : r.dir = .write
  idle : s.engine.phase = .idle
  barrier : s.frames.barrier = none
  top : s.frames.stack.getLast? = some f
  intact : f.status = .intact
  decision : s.cap.sweep.inFlight = true ∨ s.cap.map.read i ≠ f.serial
  waitList : s.cap.waitList = []
  slot : s.cap.slots.findIdx? Option.isNone = some k
  staging : s.log.staging.length < 8

/-- The state after the acceptance: the write waits for a capture, alone. -/
def captureWaits (s : State) (r : Request) (w i : Nat) : State :=
  { Effect.accepted s r (.guarded w i) .capture with cap.waitList := [r.tag] }

@[simp] theorem captureWaits_waitList (s : State) (r : Request) (w i : Nat) :
    (captureWaits s r w i).cap.waitList = [r.tag] := rfl

namespace CaptureDue

variable {s : State} {r : Request} {w i k : Nat} {f : Frame}

theorem accept_eq (h : CaptureDue s r w i k f) : s.accept r = captureWaits s r w i := by
  have ha := h.acceptable
  have hn := notHeld_guarded (s := s) (r := r) (w := w) (i := i) (st := .waitLine) h.idle (.inr h.barrier)
  have hwrite : (Effect.entry s r (.guarded w i) .waitLine).isGuardedWrite = true := by simp [h.dir]
  have hneeds : (withEntry s r (.guarded w i)).needsCapture
      (Effect.entry s r (.guarded w i) .waitLine).mapIndex = true := by
    rw [needsCapture_of_top (show (withEntry s r (.guarded w i)).frames.stack.getLast? = some f from h.top)]
    rcases h.decision with hd | hd
    · simp [h.intact, withEntry, hd]
    · simp [h.intact, withEntry, Effect.entry, Txn.mapIndex, hd]
  rw [accept_of_guarded h.cls h.state, enroll_of_notHeld hn, if_pos (withEntry_hasTurn h.line _)]
  unfold State.proceed State.judge
  rw [if_pos hwrite, if_pos hneeds, withEntry_joinWaitList ha.presented ha.fresh h.waitList]
  rfl

theorem canAsk (h : CaptureDue s r w i k f) : (captureWaits s r w i).canAsk = true := by
  have htop : (captureWaits s r w i).topIntact = true := by
    unfold State.topIntact
    rw [show (captureWaits s r w i).top = some f from h.top]
    simp [h.intact]
  have hslot : s.cap.slots.any Option.isNone = true := by
    rw [← List.findIdx?_isSome, h.slot]
    rfl
  exact canAsk_iff.2 ⟨h.acceptable.rstN, rollingBack_eq_false_iff.2 h.idle, htop, hslot, h.staging⟩

theorem findTxn_eq (h : CaptureDue s r w i k f) :
    (captureWaits s r w i).findTxn r.tag = some (Effect.entry s r (.guarded w i) .capture) := by
  have hold : s.up.txns.find? (·.tag == r.tag) = none := by
    simpa using h.acceptable.fresh
  simp [State.findTxn, captureWaits, Effect.accepted, List.find?_append, hold, Effect.entry]

theorem nothingToGrant (h : CaptureDue s r w i k f) : (captureWaits s r w i).grantCaptures.nothingToGrant = true := by
  refine grantCaptures_ends fun t ht => ?_
  obtain rfl := List.mem_singleton.1 ht
  exact List.mem_map.2 ⟨_, findTxn_mem h.findTxn_eq⟩

/-- The waiting write is the only one, and the next round of grants deals with it. -/
theorem grantCaptures_eq (h : CaptureDue s r w i k f) :
    (captureWaits s r w i).grantCaptures =
      if s.logCount < s.win.capacity then
        State.grantLoop (s.depth + 1) false (captureWaits s r w i).grantOldest
      else
        match s.mode.logPolicy with
        | .break => State.grantLoop (s.depth + 1) false ((captureWaits s r w i).breakLowest .logFull)
        | .wait => (captureWaits s r w i).startHold := by
  have hrounds : (captureWaits s r w i).grantRounds = (s.depth + 1) + 1 := by
    show 1 + s.depth + 1 = _
    omega
  unfold State.grantCaptures
  rw [hrounds]
  conv_lhs => unfold State.grantLoop
  rw [if_neg (by simp [h.canAsk])]
  rfl

/-- The grant of R47 to the new write. -/
theorem grantOldest_eq (h : CaptureDue s r w i k f) :
    (captureWaits s r w i).grantOldest =
      Effect.captureGranted (Effect.accepted s r (.guarded w i) .capture) (Effect.entry s r (.guarded w i) .capture) k f := by
  have hslot : (captureWaits s r w i).cap.slots.findIdx? Option.isNone = some k := h.slot
  have hserial : (captureWaits s r w i).topSerial = f.serial := by
    unfold State.topSerial
    rw [show (captureWaits s r w i).top = some f from h.top]
    rfl
  unfold State.grantOldest
  rw [captureWaits_waitList]
  dsimp only
  rw [h.findTxn_eq, hslot]
  dsimp only
  rw [hserial]
  rfl

theorem grantLoop_of_waitList_nil {u : State} (hu : u.cap.waitList = []) (n : Nat) : State.grantLoop n false u = u :=
  grantLoop_of_nothing (by simp [State.nothingToGrant, hu]) n

/-- Below the capacity the capture is granted (R47, R76). -/
theorem gives_granted (h : CaptureDue s r w i k f) (hc : s.logCount < s.win.capacity) :
    Effect.Gives (exec (.acceptRequest r) s)
      (Effect.captureGranted (Effect.accepted s r (.guarded w i) .capture)
        (Effect.entry s r (.guarded w i) .capture) k f) := by
  refine h.acceptable.gives (.of_up_eq ?_) ?_ h.acceptable.rstN
  · rw [h.accept_eq]
    rfl
  · rw [h.accept_eq, h.grantCaptures_eq, if_pos hc, h.grantOldest_eq]
    unfold State.grantCaptures
    rw [grantLoop_of_waitList_nil rfl, grantLoop_of_waitList_nil rfl]

/-- At the capacity under WAIT the hold timer runs (R77). -/
theorem gives_waits (h : CaptureDue s r w i k f) (hc : s.win.capacity ≤ s.logCount) (hp : s.mode.logPolicy = .wait) :
    Effect.Gives (exec (.acceptRequest r) s)
      (Effect.waitsForSpace (Effect.accepted s r (.guarded w i) .capture) r.tag) := by
  have hstart : (captureWaits s r w i).grantCaptures =
      Effect.waitsForSpace (Effect.accepted s r (.guarded w i) .capture) r.tag := by
    rw [h.grantCaptures_eq, if_neg (Nat.not_lt.2 hc), hp]
    rfl
  have hends := h.nothingToGrant
  refine h.acceptable.gives (.of_up_eq ?_) ?_ h.acceptable.rstN
  · rw [h.accept_eq]
    rfl
  · rw [h.accept_eq, hstart, grantCaptures_of_nothing (hstart ▸ hends)]

/-- The event of the acceptance is the event of the grant with the write on the wait list. -/
theorem exec_eq_captureGrant (h : CaptureDue s r w i k f) :
    exec (.acceptRequest r) s = exec .captureGrant (captureWaits s r w i) := by
  have hends := h.nothingToGrant
  have hgives := h.acceptable.gives (u := (captureWaits s r w i).grantCaptures)
    (by rw [h.accept_eq]; exact grantCaptures_moves _)
    (by rw [h.accept_eq, grantCaptures_of_nothing hends])
    ((grantCaptures_keeps _).rstN.trans h.acceptable.rstN)
  rw [hgives.1]
  show _ = execCaptureGrant (captureWaits s r w i)
  rw [execCaptureGrant, if_pos (by simp [h.canAsk])]

end CaptureDue

/-- Settles O20: the accepted write waits alone, and the grants of the event take it, start the hold timer or break
frames. -/
theorem guardedWriteIsCapturedOrWaits : Obligations.GuardedWriteIsCapturedOrWaits := by
  intro r w i k f s hr hp ht hroom hnew hcls hm hdir hidle hb htop hintact hdec hw hk hst
  have h : CaptureDue s r w i k f :=
    ⟨⟨hr, hp, ht, hroom, fun e he => (hnew e he).1⟩, fun e he => (hnew e he).2, hcls, hm, hdir, hidle, hb, htop, hintact,
      hdec, hw, hk, hst⟩
  exact ⟨h.gives_granted, h.gives_waits, fun _ _ => h.exec_eq_captureGrant⟩

end Sys2Proof.AccessPath
end

/-! ## LEAVE_SETUP brings the setup table into force (R20, R21, R138, R140) -/

section
namespace Sys2Proof.AccessPath

open Sys2Proof Sys2Proof.Machine

theorem rstN_of_ready {s : State} {i : Instr} (h : s.ready i = true) : s.rstN = true := by
  unfold State.ready at h
  split at h
  · exact (Bool.and_eq_true_iff.1 h).1
  · cases h

/-- The action codes of Table 11.7 as a list. -/
theorem actionOfItem_eq_getD (v : ItemValue) :
    actionOfItem v = [FaultAction.ignore, .note, .abort].getD (itemByte v 0).toNat .abortAll := by
  unfold actionOfItem
  generalize (itemByte v 0).toNat = n
  match n with
  | 0 => rfl
  | 1 => rfl
  | 2 => rfl
  | n + 3 => rfl

/-- The footprints of windows are 64 entries for each page of the enabled ones. -/
theorem sum_map_footprint (win : Nat → Window) (l : List Nat) :
    (l.map fun n => footprint (win n)).sum =
      ((l.filter fun m => (win m).enable).map fun m => 64 * (win m).pages).sum := by
  induction l with
  | nil => rfl
  | cons n l ih =>
    rw [List.map_cons, List.sum_cons, ih]
    cases hw : (win n).enable <;> simp [hw, footprint]

/-- The windows loaded: each has the pages of its item, after the pages of the enabled windows before it (R21). -/
theorem loadWindows_windows (setup : List ItemValue) :
    (loadWindows setup).windows =
      (List.range 8).map fun n =>
        { windowOfItem (setupItem setup n) with
          mapOffset :=
            if (windowOfItem (setupItem setup n)).enable then
              (((List.range n).filter fun m => (windowOfItem (setupItem setup m)).enable).map fun m =>
                64 * (windowOfItem (setupItem setup m)).pages).sum
            else 0 } := by
  refine List.ext_getElem? fun k => ?_
  rw [loadWindows, assignOffsets_getElem?]
  by_cases hk : k < 8
  · have htake : (((setupWindows setup).map footprint).take k).sum =
        ((List.range k).map fun m => footprint (windowOfItem (setupItem setup m))).sum := by
      simp [setupWindows, ← List.map_take, List.take_range, Nat.min_eq_left hk.le, Function.comp_def]
    rw [htake, sum_map_footprint]
    simp [setupWindows, hk]
  · simp [setupWindows, Nat.not_lt.1 hk]

theorem setupActions_eq (setup : List ItemValue) :
    setupActions setup =
      { flt0 := [FaultAction.ignore, .note, .abort].getD (itemByte (setupItem setup 0x0F) 0).toNat .abortAll
        flt1 := [FaultAction.ignore, .note, .abort].getD (itemByte (setupItem setup 0x10) 0).toNat .abortAll
        flt2 := [FaultAction.ignore, .note, .abort].getD (itemByte (setupItem setup 0x11) 0).toNat .abortAll
        flt3 := [FaultAction.ignore, .note, .abort].getD (itemByte (setupItem setup 0x12) 0).toNat .abortAll
        deadline := [FaultAction.ignore, .note, .abort].getD (itemByte (setupItem setup 0x13) 0).toNat .abortAll } := by
  simp only [setupActions, actionOfItem_eq_getD]

/-- The direct effect of a LEAVE_SETUP whose checks pass (R140). -/
theorem activate_reply_eq (s : State) : s.activate.reply .ack [] = Effect.setupLeft s := by
  have hwin : loadWindows s.mode.setup = (Effect.setupLeft s).win :=
    congrArg (WindowTable.mk · (setupLogBase s.mode.setup) (setupCapacity s.mode.setup)) (loadWindows_windows s.mode.setup)
  unfold State.activate
  dsimp only
  rw [hwin, setupActions_eq]
  rfl

/-- Settles O41: the row's two answers in SETUP and outside it. -/
theorem leaveSetupBringsTheTableIntoForce : Obligations.LeaveSetupBringsTheTableIntoForce := by
  intro s hready
  refine ⟨fun hstate hvalid => ?_, fun hstate => ?_⟩
  · have hr : s.rstN = true := rstN_of_ready hready
    refine gives_of_settle ?_ hr
    show execLeaveSetup s = _
    rw [execLeaveSetup, if_pos hready, hstate]
    dsimp only
    rw [hvalid, ← activate_reply_eq]
  · show execLeaveSetup s = _
    rw [execLeaveSetup, if_pos hready]
    cases hs : s.mode.state with
    | setup => exact absurd hs hstate
    | active => rfl
    | failed => rfl

end Sys2Proof.AccessPath
end

/-! ## The arbiter's choice and its grants (R128 to R131, Table 8.2) -/

section
namespace Sys2Proof.AccessPath

open Sys2Proof Sys2Proof.Machine

/-! ### Eligible requests and their order -/

/-- A request is eligible after those handed before it, `seen` their lines: no slot and none of them has its line (R130). -/
structure EligibleAfter (slots : List DSlot) (seen : List Addr) (earlier : List Waiting) (w : Waiting) : Prop where
  slots : ∀ d ∈ slots, d.line? ≠ some w.line
  seen : w.line ∉ seen
  earlier : ∀ x ∈ earlier, x.line ≠ w.line

variable {slots : List DSlot} {seen : List Addr} {w x : Waiting} {ws pre post : List Waiting}

theorem lineBusy_eq_false {line : Addr} : lineBusy slots line = false ↔ ∀ d ∈ slots, d.line? ≠ some line := by
  simp [lineBusy]

theorem eligibleAfter_cons :
    EligibleAfter slots seen (x :: pre) w ↔ EligibleAfter slots (x.line :: seen) pre w :=
  ⟨fun h => ⟨h.slots, by simpa [h.seen] using (h.earlier x (by simp)).symm, fun y hy => h.earlier y (by simp [hy])⟩,
    fun h => ⟨h.slots, fun hs => h.seen (by simp [hs]), fun y hy => by
      rcases List.mem_cons.1 hy with rfl | hy
      · exact fun he => h.seen (by simp [he])
      · exact h.earlier y hy⟩⟩

theorem eligibleAfter_nil :
    EligibleAfter slots seen [] w ↔ (lineBusy slots w.line || seen.contains w.line) = false := by
  simp only [Bool.or_eq_false_iff, lineBusy_eq_false, List.contains_eq_mem, decide_eq_false_iff_not]
  exact ⟨fun h => ⟨h.slots, h.seen⟩, fun ⟨h1, h2⟩ => ⟨h1, h2, by simp⟩⟩

theorem eligibleFrom_cons :
    eligibleFrom slots seen (x :: ws) =
      if lineBusy slots x.line || seen.contains x.line then eligibleFrom slots (x.line :: seen) ws
      else x :: eligibleFrom slots (x.line :: seen) ws := rfl

/-- The list that the arbiter computes holds the requests eligible in their place. -/
theorem mem_eligibleFrom :
    w ∈ eligibleFrom slots seen ws ↔ ∃ pre post, ws = pre ++ w :: post ∧ EligibleAfter slots seen pre w := by
  induction ws generalizing seen with
  | nil => simp [eligibleFrom]
  | cons x ws ih =>
    have hrest : (∃ pre post, ws = pre ++ w :: post ∧ EligibleAfter slots (x.line :: seen) pre w) ↔
        ∃ pre post, x :: ws = (x :: pre) ++ w :: post ∧ EligibleAfter slots seen (x :: pre) w := by
      simp [eligibleAfter_cons]
    have hsplit : (∃ pre post, x :: ws = pre ++ w :: post ∧ EligibleAfter slots seen pre w) ↔
        (x = w ∧ EligibleAfter slots seen [] w) ∨
          ∃ pre post, x :: ws = (x :: pre) ++ w :: post ∧ EligibleAfter slots seen (x :: pre) w := by
      constructor
      · rintro ⟨pre, post, he, hel⟩
        cases pre with
        | nil => exact .inl ⟨(List.cons.inj he).1, hel⟩
        | cons y pre =>
          obtain rfl := (List.cons.inj he).1
          exact .inr ⟨pre, post, he, hel⟩
      · rintro (⟨rfl, hel⟩ | ⟨pre, post, he, hel⟩)
        · exact ⟨[], ws, rfl, hel⟩
        · exact ⟨x :: pre, post, he, hel⟩
    rw [hsplit, ← hrest, ← ih, eligibleAfter_nil, eligibleFrom_cons]
    split
    · rename_i hb
      refine ⟨.inr, fun h => h.resolve_left ?_⟩
      rintro ⟨rfl, h⟩
      exact Bool.false_ne_true (h.symm.trans hb)
    · rename_i hb
      rw [List.mem_cons]
      refine or_congr_left ⟨fun h => ?_, fun h => h.1.symm⟩
      subst h
      exact ⟨rfl, Bool.not_eq_true _ ▸ hb⟩

/-- The first eligible request of a kind is eligible in its place, and none of the kind is eligible in an earlier place. -/
theorem find?_eligibleFrom {p : Waiting → Bool} (h : (eligibleFrom slots seen ws).find? p = some w) :
    ∃ pre post, ws = pre ++ w :: post ∧ EligibleAfter slots seen pre w ∧
      ∀ pre' x post', ws = pre' ++ x :: post' → EligibleAfter slots seen pre' x → p x = true →
        pre.length ≤ pre'.length := by
  induction ws generalizing seen with
  | nil => simp [eligibleFrom] at h
  | cons y ws ih =>
    -- what holds of the rest, where the front is not chosen
    have later : (eligibleFrom slots (y.line :: seen) ws).find? p = some w →
        (EligibleAfter slots seen [] y → p y = false) →
        ∃ pre post, y :: ws = pre ++ w :: post ∧ EligibleAfter slots seen pre w ∧
          ∀ pre' x post', y :: ws = pre' ++ x :: post' → EligibleAfter slots seen pre' x → p x = true →
            pre.length ≤ pre'.length := fun hf hy => by
      obtain ⟨pre, post, rfl, hel, hfirst⟩ := ih hf
      refine ⟨y :: pre, post, rfl, eligibleAfter_cons.2 hel, fun pre' x post' he hx hp => ?_⟩
      cases pre' with
      | nil =>
        obtain rfl := (List.cons.inj he).1
        simp [hy hx] at hp
      | cons z pre' =>
        obtain ⟨rfl, he'⟩ := List.cons.inj he
        exact Nat.succ_le_succ (hfirst pre' x post' he' (eligibleAfter_cons.1 hx) hp)
    rw [eligibleFrom_cons] at h
    split at h
    · rename_i hb
      exact later h fun hy => absurd ((eligibleAfter_nil.1 hy).symm.trans hb) Bool.false_ne_true
    · rename_i hb
      cases hp : p y with
      | false => exact later (by simpa [hp] using h) fun _ => hp
      | true =>
        obtain rfl : y = w := by simpa [hp] using h
        exact ⟨[], ws, rfl, eligibleAfter_nil.2 (Bool.not_eq_true _ ▸ hb), fun _ _ _ _ _ _ => Nat.zero_le _⟩

/-- The oldest of a list has the least age. -/
theorem oldestOf_le {age : Waiting → Nat} {l : List Waiting} (h : oldestOf age l = some w) :
    ∀ x ∈ l, age w ≤ age x := by
  induction l generalizing w with
  | nil => simp
  | cons y ys ih =>
    unfold oldestOf at h
    intro x hx
    cases ho : oldestOf age ys with
    | none =>
      rw [oldestOf_eq_none.1 ho] at hx
      simp_all
    | some v =>
      have hv := ih ho
      rw [ho] at h
      dsimp only at h
      split at h
      · rename_i hlt
        obtain rfl := Option.some.inj h
        rcases List.mem_cons.1 hx with rfl | hx
        · exact hlt.le
        · exact hv x hx
      · rename_i hge
        obtain rfl := Option.some.inj h
        rcases List.mem_cons.1 hx with rfl | hx
        · exact le_rfl
        · exact (Nat.not_lt.1 hge).trans (hv x hx)

/-! ### The choice -/

/-- The place of a source in the order of Table 8.2. -/
def sourceRank (src : Source) : Nat := [Source.rollback, .capture, .log, .passthrough].idxOf src

theorem sourceRank_inj {a b : Source} (h : sourceRank a = sourceRank b) : a = b :=
  (List.idxOf_inj (by cases a <;> decide)).1 h

/-- The arbiter's choice among the eligible requests: none is of a higher source; it is the first of its source, or the
oldest in the passthrough queue (Table 8.2). -/
structure Chosen (s : State) (w : Waiting) : Prop where
  highest : ∀ x ∈ s.down.eligible, sourceRank w.origin.source ≤ sourceRank x.origin.source
  first : sourceRank w.origin.source < 3 → s.down.eligible.find? (·.origin.source == w.origin.source) = some w
  oldest : w.origin.source = .passthrough →
    oldestOf s.waitingAge (s.down.eligible.filter (·.origin.source == .passthrough)) = some w

/-- A request found by its source, where no eligible one is of a higher source. -/
theorem chosen_of_find? {s : State} {src : Source} (hsrc : sourceRank src < 3)
    (hf : s.down.eligible.find? (·.origin.source == src) = some w)
    (hno : ∀ x ∈ s.down.eligible, sourceRank src ≤ sourceRank x.origin.source) : Chosen s w := by
  obtain rfl : w.origin.source = src := by simpa using List.find?_some hf
  exact ⟨hno, fun _ => hf, fun hp => absurd hsrc (by rw [hp]; decide)⟩

theorem chosen_of_nextGrant {s : State} (h : s.nextGrant = some w) : Chosen s w := by
  have hno : ∀ src, s.down.eligible.find? (·.origin.source == src) = none →
      ∀ x ∈ s.down.eligible, x.origin.source ≠ src := fun src hf x hx => by
    simpa using List.find?_eq_none.1 hf x hx
  have habove : ∀ {a b : Source}, sourceRank b = sourceRank a + 1 → ∀ x : Waiting,
      sourceRank a ≤ sourceRank x.origin.source → x.origin.source ≠ a → sourceRank b ≤ sourceRank x.origin.source :=
    fun hab x hle hne => hab ▸ Nat.lt_of_le_of_ne hle fun he => hne (sourceRank_inj he).symm
  unfold State.nextGrant at h
  simp only [Option.or_eq_some_iff] at h
  have h1 : ∀ x ∈ s.down.eligible, sourceRank .rollback ≤ sourceRank x.origin.source := fun _ _ => Nat.zero_le _
  rcases h with hf | ⟨hr, h⟩
  · exact chosen_of_find? (by decide) hf h1
  have h2 : ∀ x ∈ s.down.eligible, sourceRank .capture ≤ sourceRank x.origin.source := fun x hx =>
    habove (a := .rollback) rfl x (h1 x hx) (hno _ hr x hx)
  rcases h with hf | ⟨hc, h⟩
  · exact chosen_of_find? (by decide) hf h2
  have h3 : ∀ x ∈ s.down.eligible, sourceRank .log ≤ sourceRank x.origin.source := fun x hx =>
    habove (a := .capture) rfl x (h2 x hx) (hno _ hc x hx)
  rcases h with hf | ⟨hl, ho⟩
  · exact chosen_of_find? (by decide) hf h3
  have hpass : w.origin.source = .passthrough := by simpa using (List.mem_filter.1 (oldestOf_mem ho)).2
  exact {
    highest := fun x hx => hpass ▸ habove (a := .log) rfl x (h3 x hx) (hno _ hl x hx)
    first := fun hlt => absurd hlt (by rw [hpass]; decide)
    oldest := fun _ => ho }

/-! ### The grant -/

/-- The grant of the model is the grant that the statement writes out. -/
theorem grantDown_eq_granted (s : State) (w : Waiting) (n : Nat) : s.grantDown w n = Effect.granted s w n := by
  have hbeats : s.issuedBeats w = Effect.beatsOf s w := by
    unfold State.issuedBeats Effect.beatsOf State.findTxn
    cases w.origin with
    | txn t =>
      dsimp only
      cases s.up.txns.find? (·.tag == t) <;> rfl
    | slot i => rfl
    | logHeader | logImage | unwindHeader | unwindImage | writeBack => rfl
  have hup : s.up.dataTaken w.origin = (Effect.granted s w n).up := by
    unfold UpstreamPort.dataTaken Effect.granted
    cases w.origin with
    | txn t => simp [eq_comm (a := t)]
    | slot i => simp
    | logHeader | logImage | unwindHeader | unwindImage | writeBack => simp
  unfold State.grantDown
  rw [hbeats, hup]
  rfl

theorem lowestFree_eq {d : DownstreamPort} {n : Nat} (hn : d.slots[n]? = some .free)
    (hlow : ∀ m < n, d.slots[m]? ≠ some .free) : d.lowestFree = some n := by
  obtain ⟨hlt, hget⟩ := List.getElem?_eq_some_iff.1 hn
  refine List.findIdx?_eq_some_iff_getElem.2 ⟨hlt, by rw [hget]; rfl, fun m hm hfree => ?_⟩
  have hne := hlow m hm
  rw [List.getElem?_eq_getElem (hm.trans hlt)] at hne
  cases hd : d.slots[m] with
  | free => exact hne (by rw [hd])
  | outstanding o line dropped => simp [hd, DSlot.isFree] at hfree
  | stale line => simp [hd, DSlot.isFree] at hfree

/-- The first of the grants of an event, and the rest (R131). -/
theorem arbitrate_of_grant {s : State} {n : Nat} (hw : s.nextGrant = some w) (hn : s.down.lowestFree = some n) :
    s.arbitrate = (s.grantDown w n).arbitrate := by
  obtain ⟨pre, post, hwait, -⟩ := mem_eligibleFrom.1 (nextGrant_mem hw)
  have hmem : w ∈ s.down.waiting := by simp [hwait]
  have hlen : s.down.waiting.length = (s.down.waiting.erase w).length + 1 := by
    rw [List.length_erase_of_mem hmem]
    exact (Nat.succ_pred_eq_of_pos (List.length_pos_of_mem hmem)).symm
  unfold State.arbitrate
  rw [hlen, State.arbitrateLoop, hw, hn]
  rfl

theorem portIdle_of_nothing {s : State} (h : s.nextGrant = none ∨ ∀ d ∈ s.down.slots, d ≠ .free) :
    s.portIdle = true := by
  rcases h with h | h
  · simp [State.portIdle, nextGrant_eq_none.1 h]
  · have hnone : s.down.lowestFree = none := by
      refine List.findIdx?_eq_none_iff.2 fun d hd => ?_
      cases hs : d with
      | free => exact absurd hs (h d hd)
      | outstanding o line dropped => rfl
      | stale line => rfl
    simp [State.portIdle, hnone]

/-- Settles O59: the choice is the first of the highest source, and the loop of grants makes one after another. -/
theorem grantsFollowThePriorities : Obligations.GrantsFollowThePriorities := by
  intro s rank eligible
  have hel : ∀ pre x, eligible pre x ↔ EligibleAfter s.down.slots [] pre x := fun pre x =>
    ⟨fun ⟨h1, h2⟩ => ⟨h1, by simp, h2⟩, fun h => ⟨h.slots, h.earlier⟩⟩
  have hmem : ∀ {x pre post}, s.down.waiting = pre ++ x :: post → eligible pre x → x ∈ s.down.eligible :=
    fun he hx => mem_eligibleFrom.2 ⟨_, _, he, (hel _ _).1 hx⟩
  refine ⟨fun w hw => ?_, ?_, fun w n hr hw hfree hlow => ?_, fun h => ?_⟩
  · have hc := chosen_of_nextGrant hw
    have hsame : ∀ {x}, rank x = 3 → rank w = 3 → x.origin.source = .passthrough ∧ w.origin.source = .passthrough :=
      fun hx hw => ⟨sourceRank_inj hx, sourceRank_inj hw⟩
    have hage : ∀ x ∈ s.down.eligible, rank x = 3 → rank w = 3 → s.waitingAge w ≤ s.waitingAge x := fun x hx h3 hw3 =>
      have ⟨hxp, hwp⟩ := hsame h3 hw3
      oldestOf_le (hc.oldest hwp) x (List.mem_filter.2 ⟨hx, by simp [hxp]⟩)
    by_cases hlt : rank w < 3
    · obtain ⟨pre, post, he, hw', hfirst⟩ := find?_eligibleFrom (hc.first hlt)
      refine ⟨pre, post, he, (hel _ _).2 hw', fun pre' x post' he' hx => ?_⟩
      refine ⟨hc.highest x (hmem he' hx), hage x (hmem he' hx), fun hrank _ => ?_⟩
      exact hfirst pre' x post' he' ((hel _ _).1 hx) (by simpa using sourceRank_inj hrank)
    · obtain ⟨pre, post, he, hw'⟩ := mem_eligibleFrom.1 (nextGrant_mem hw)
      refine ⟨pre, post, he, (hel _ _).2 hw', fun pre' x post' he' hx => ?_⟩
      exact ⟨hc.highest x (hmem he' hx), hage x (hmem he' hx), fun _ hlt' => absurd hlt' hlt⟩
  · rw [nextGrant_eq_none, List.eq_nil_iff_forall_not_mem]
    refine ⟨fun h pre x post he hx => h x (hmem he hx), fun h x hx => ?_⟩
    obtain ⟨pre, post, he, hx'⟩ := mem_eligibleFrom.1 hx
    exact h pre x post he ((hel _ _).2 hx')
  · have hexec : ∀ t : State, t.rstN = true → exec .downstreamGrant t = .next t.arbitrate := fun t ht =>
      congrArg Host.Outcome.next (if_pos ht)
    have hgrant := arbitrate_of_grant hw (lowestFree_eq hfree hlow)
    rw [hexec s hr, hexec (Effect.granted s w n) hr, hgrant, grantDown_eq_granted]
    refine ⟨rfl, fun hone => congrArg Host.Outcome.next ?_⟩
    unfold State.arbitrate
    rw [show (Effect.granted s w n).down.waiting = [] by simp [Effect.granted, hone]]
    rfl
  · show execDownstreamGrant s = _
    rw [execDownstreamGrant, arbitrate_of_idle (portIdle_of_nothing h), ite_self]

end Sys2Proof.AccessPath
end

/-! ## Where the layout, the values in force, the setup table and the Capture Map change (R20, R40, R50, R56, R138) -/

section
namespace Sys2Proof.AccessPath

open Sys2Proof Sys2Proof.Machine

/-! ### What is kept -/

/-- The Window Table, the values in force, the setup table and the Capture Map. -/
structure Layout where
  win         : WindowTable
  setup       : List ItemValue
  logPolicy   : LogPolicy
  holdLimit   : Nat
  depthPolicy : DepthPolicy
  reservation : Bool
  divisor     : Nat
  deadlineIn  : Nat
  actions     : ActionTable
  map         : CaptureMap

/-- The layout of a state. -/
def layout (s : State) : Layout where
  win := s.win
  setup := s.mode.setup
  logPolicy := s.mode.logPolicy
  holdLimit := s.mode.holdLimit
  depthPolicy := s.mode.depthPolicy
  reservation := s.mode.reservation
  divisor := s.flt.divisor
  deadlineIn := s.flt.deadlineIn
  actions := s.flt.actions
  map := s.cap.map

theorem layout_of_settleKeeps {s t : State} (h : SettleKeeps s t) : layout t = layout s := by
  simp only [layout, h.win, h.mode, h.divisor, h.deadlineIn, h.actions, h.map]

theorem layout_settle (s : State) : layout s.settle = layout s := layout_of_settleKeeps (settle_keeps s)

theorem layout_foldl {α : Type} {f : State → α → State} (hf : ∀ s a, layout (f s a) = layout s) (l : List α) (s : State) :
    layout (l.foldl f s) = layout s := by
  induction l generalizing s with
  | nil => rfl
  | cons a l ih => exact (ih _).trans (hf s a)

section direct

variable (s : State)

theorem layout_answerPassthrough (t : Tag) (resp : MemResponse) : layout (s.answerPassthrough t resp) = layout s := by
  unfold State.answerPassthrough
  repeat' split
  all_goals rfl

theorem layout_enterFailed (cause : FailCause) : layout (s.enterFailed cause) = layout s := by
  have hdeny : layout (s.unissuedGuarded.foldl State.deny s) = layout s := layout_foldl (f := State.deny) (fun _ _ => rfl) _ s
  unfold State.enterFailed State.cancelReservation
  dsimp only
  split
  · exact hdeny
  · exact hdeny

theorem layout_endAttempt (j : WriterJob) : layout (s.endAttempt j) = layout s := by
  unfold State.endAttempt
  dsimp only
  repeat' split
  · rfl
  · rfl
  · rfl
  · exact layout_enterFailed _ _
  · rfl

theorem layout_countLogAnswer (resp : MemStatus) : layout (s.countLogAnswer resp) = layout s := by
  unfold State.countLogAnswer
  dsimp only
  repeat' split
  · rfl
  · exact layout_endAttempt s _
  · rfl

theorem layout_judgeReads (h : Hand) (hd im : LineResponse) : layout (s.judgeReads h hd im) = layout s := by
  rcases judgeReads_cases s h hd im with ⟨cause, he⟩ | he | ⟨line, data, he⟩
  · rw [he]
    exact layout_enterFailed s cause
  · rw [he]
    rfl
  · rw [he]
    rfl

theorem layout_recordRead (b : Bool) (resp : LineResponse) : layout (s.recordRead b resp) = layout s := by
  unfold State.recordRead
  dsimp only
  split
  · split
    · split
      · exact layout_judgeReads s _ _ _
      · rfl
    · rfl
  · rfl

theorem layout_recordWriteBack (resp : MemStatus) : layout (s.recordWriteBack resp) = layout s := by
  unfold State.recordWriteBack
  dsimp only
  repeat' split
  · exact layout_enterFailed s _
  · rfl
  · rfl
  · rfl

theorem layout_absorb (e : Txn) : layout (s.absorb e) = layout s := by
  unfold State.absorb
  split <;> rfl

theorem layout_reserveOrBusy : layout s.reserveOrBusy = layout s := by
  unfold State.reserveOrBusy
  split <;> rfl

theorem layout_abandonBarrier : layout s.abandonBarrier = layout s := by
  unfold State.abandonBarrier
  split
  · rfl
  · exact layout_reserveOrBusy _

theorem layout_startRollback (k : AbortKind) (b : Bool) : layout (s.startRollback k b) = layout s := by
  unfold State.startRollback
  dsimp only
  split
  · exact (layout_foldl layout_absorb _ _).trans (layout_abandonBarrier _)
  · exact (layout_of_settleKeeps (release_keeps _ _)).trans (layout_abandonBarrier _)

theorem layout_requestAbort (k : AbortKind) (b : Bool) : layout (s.requestAbort k b) = layout s := by
  unfold State.requestAbort
  repeat' split
  · rfl
  · rfl
  · rfl
  · exact layout_startRollback s k b

theorem layout_actOnFault (x : FaultSource) (a : FaultAction) : layout (s.actOnFault x a) = layout s := by
  unfold State.actOnFault
  repeat' split
  · rfl
  · rfl
  · exact layout_requestAbort (s.postFault x .abort) _ _
  · exact layout_requestAbort (s.postFault x .abortAll) _ _
  all_goals rfl

theorem layout_expireDeadline : layout s.expireDeadline = layout s := layout_actOnFault _ _ _

theorem layout_tickHold : layout s.tickHold = layout s := by
  unfold State.tickHold
  dsimp only
  repeat' split
  · exact layout_of_settleKeeps (expireHold_keeps _)
  · rfl
  · rfl

theorem layout_tickDeadline : layout s.tickDeadline = layout s := by
  unfold State.tickDeadline
  dsimp only
  repeat' split
  · exact layout_expireDeadline _
  · rfl
  · rfl

theorem layout_countPulse : layout s.countPulse = layout s := by
  unfold State.countPulse State.tick
  split
  · exact (layout_tickDeadline _).trans (layout_tickHold _)
  · rfl

theorem layout_reclaim (q : Seq) : layout (s.reclaim q) = layout s := layout_of_settleKeeps (reclaim_keeps s q)

theorem layout_commitTop : layout s.commitTop = layout s := by
  unfold State.commitTop
  dsimp only
  split
  · rfl
  split
  · refine (layout_of_settleKeeps (rejudge_keeps _)).trans ?_
    exact layout_reclaim _ _
  · refine (layout_of_settleKeeps (rejudge_keeps _)).trans ?_
    split
    · exact layout_reclaim _ _
    · rfl

theorem layout_dealOpen : layout s.dealOpen = layout s := by
  unfold State.dealOpen
  split
  · exact layout_reserveOrBusy s
  · rfl

theorem layout_dealCommit : layout s.dealCommit = layout s := by
  unfold State.dealCommit
  repeat' split
  · rfl
  · rfl
  · exact layout_commitTop s

theorem layout_controlRise (req : CtlRequest) {owner : State → State} (h : ∀ u, layout (owner u) = layout u) :
    layout (s.controlRise req owner) = layout s := by
  unfold State.controlRise
  split
  · rfl
  split
  · refine (layout_settle _).trans ?_
    unfold State.dealWith
    split
    · exact h _
    all_goals rfl
  · rfl

theorem layout_captureErr (c : CaptureSlot) : layout (s.captureErr c) = layout s := by
  unfold State.captureErr
  dsimp only
  repeat' split
  all_goals rfl

/-- An OK completion writes the map entry of its capture, or leaves the map (R50, R52). -/
theorem layout_captureOk (c : CaptureSlot) (d : LineData) :
    layout (s.captureOk c d) = layout s ∨
      layout (s.captureOk c d) = { layout s with map := s.cap.map.write c.mapIndex c.serial } := by
  unfold State.captureOk
  dsimp only
  by_cases hr : s.retained c = true
  · rw [if_pos hr]
    split
    · exact .inr rfl
    · exact .inr rfl
  · rw [if_neg hr]
    split
    · exact .inl rfl
    · exact .inl rfl

/-- The completion of a capture leaves the layout, but for the map entry of an OK one. -/
theorem layout_completeCapture (n : Nat) (resp : LineResponse) :
    layout (s.completeCapture n resp) = layout s ∨
      ∃ d c, resp = .ok d ∧ s.cap.slots.getD n none = some c ∧
        layout (s.completeCapture n resp) = { layout s with map := s.cap.map.write c.mapIndex c.serial } := by
  unfold State.completeCapture
  split
  · exact .inl rfl
  · rename_i c hc
    dsimp only
    split
    · exact .inl rfl
    split
    · rename_i d
      rcases layout_captureOk { s with cap.slots := s.cap.slots.set n none } c d with h | h
      · exact .inl h
      · exact .inr ⟨d, c, rfl, hc, h⟩
    · exact .inl (layout_captureErr _ c)

theorem layout_sweepOne :
    layout s.sweepOne = { layout s with map := s.cap.map.clear s.cap.sweep.position } := by
  unfold State.sweepOne
  dsimp only
  split <;> rfl

end direct

/-! ### What a command can change -/

/-- The changes of the layout, each with its command. -/
inductive LayoutChange (s : State) : Instr → State → Prop
  | kept {i : Instr} {t : State} (h : layout t = layout s) : LayoutChange s i t
  | reset (c : ResetCause) (t : State) : LayoutChange s (.hardReset c) t
  | left {t : State} (hs : t.mode.setup = s.mode.setup) (hm : t.cap.map = s.cap.map) : LayoutChange s .leaveSetup t
  | item (n : Byte) (v : ItemValue) {t : State} (setup : List ItemValue)
      (h : layout t = { layout s with setup := setup }) : LayoutChange s (.setupWrite n v) t
  | swept {t : State} (h : layout t = { layout s with map := s.cap.map.clear s.cap.sweep.position }) :
      LayoutChange s .sweepClear t
  | captured (k : DTag) (d : LineData) (n : Nat) (line : Addr) (c : CaptureSlot) {t : State}
      (hd : s.dslot k = .outstanding (.slot n) line false) (hc : s.cap.slots.getD n none = some c)
      (h : layout t = { layout s with map := s.cap.map.write c.mapIndex c.serial }) :
      LayoutChange s (.preImageResponse k (.ok d)) t

/-- An event that settles a direct effect which leaves the layout. -/
theorem LayoutChange.settled {s u : State} {i : Instr} (h : layout u = layout s) : LayoutChange s i u.settle :=
  .kept ((layout_settle u).trans h)

/-- All that a command can do to the layout. -/
theorem exec_layoutChange {i : Instr} {s t : State} (h : exec i s = .next t) : LayoutChange s i t := by
  cases i <;> obtain rfl := Host.Outcome.next.inj h
  case acceptRequest r =>
    refine .settled ?_
    unfold State.present
    split <;> rfl
  case openFrame => exact .kept (layout_controlRise s _ layout_dealOpen)
  case commit => exact .kept (layout_controlRise s _ layout_dealCommit)
  case abort => exact .kept (layout_controlRise s _ fun u => layout_requestAbort u _ _)
  case abortAll => exact .kept (layout_controlRise s _ fun u => layout_requestAbort u _ _)
  case takeFault line =>
    split
    · exact .settled (layout_actOnFault _ _ _)
    · exact .kept rfl
  case trefPulse =>
    split
    · exact .settled (layout_countPulse s)
    · exact .kept rfl
  case holdExpired =>
    split
    · exact .settled (layout_of_settleKeeps (expireHold_keeps s))
    · exact .kept rfl
  case deadlineExpiry =>
    split
    · exact .settled (layout_expireDeadline s)
    · exact .kept rfl
  case hardReset c => exact .reset c _
  case leaveSetup =>
    repeat' split
    · exact .kept rfl
    · have hk := settle_keeps (s.activate.reply .ack [])
      exact .left (by rw [hk.mode]; rfl) hk.map
    all_goals exact .kept rfl
  case setupWrite n v =>
    repeat' split
    · exact .kept rfl
    · exact .kept rfl
    · exact .kept rfl
    · exact .item n v (s.mode.setup.set n.toNat v) rfl
    · exact .kept rfl
  case recover =>
    repeat' split
    · exact .settled rfl
    all_goals exact .kept rfl
  case forceAbort operand =>
    repeat' split
    · exact .settled (layout_actOnFault _ _ _)
    all_goals exact .kept rfl
  case barrierCompletion =>
    split
    · exact .settled (layout_of_settleKeeps (completeBarrier_keeps s))
    · exact .kept rfl
  case captureGrant =>
    split
    · exact .settled (layout_of_settleKeeps (grantCaptures_keeps s))
    · exact .kept rfl
  case passthroughResponse tag resp =>
    split
    · exact .settled (layout_answerPassthrough (s.freeDownSlot tag) _ _)
    · exact .kept rfl
  case preImageResponse k resp =>
    split
    · rename_i n line hd
      rcases layout_completeCapture (s.freeDownSlot k) n resp with hl | ⟨d, c, rfl, hc, hl⟩
      · exact .settled hl
      · exact .captured k d n line c hd hc ((layout_settle _).trans hl)
    · exact .kept rfl
  case logWriterStart =>
    split
    · exact .settled rfl
    · exact .kept rfl
  case logWriteResponse tag resp =>
    split
    · exact .settled (layout_countLogAnswer (s.freeDownSlot tag) _)
    · exact .settled (layout_countLogAnswer (s.freeDownSlot tag) _)
    · exact .kept rfl
  case quiesceEnd =>
    split
    · exact .settled rfl
    · exact .kept rfl
  case unwindStep =>
    split
    · exact .settled (layout_of_settleKeeps (beginStep_keeps s))
    · exact .kept rfl
  case unwindReadResponse tag resp =>
    split
    · exact .settled (layout_recordRead (s.freeDownSlot tag) _ _)
    · exact .settled (layout_recordRead (s.freeDownSlot tag) _ _)
    · exact .kept rfl
  case writeBackResponse tag resp =>
    split
    · exact .settled (layout_recordWriteBack (s.freeDownSlot tag) _)
    · exact .kept rfl
  case rollbackCompletion =>
    split
    · exact .settled (layout_of_settleKeeps (completeRollback_keeps s))
    · exact .kept rfl
  case downstreamGrant =>
    split
    · exact .kept (layout_of_settleKeeps (arbitrate_settleKeeps s))
    · exact .kept rfl
  case discardedResponse tag =>
    split
    · exact .settled rfl
    · exact .settled rfl
    all_goals exact .kept rfl
  case sweepClear =>
    split
    · exact .swept (layout_sweepOne s)
    · exact .kept rfl
  case rstNRise =>
    split
    · exact .kept rfl
    · exact .settled rfl
  -- the commands that settle nothing and change no part of the layout
  all_goals repeat' split
  all_goals exact .kept rfl

/-! ### The statement -/

/-- An equality of layouts, but for the setup table and the Capture Map, is the frame of R138. -/
theorem values_of_layout {s t : State} {setup : List ItemValue} {map : CaptureMap}
    (h : layout t = { layout s with setup := setup, map := map }) :
    t.win = s.win ∧ t.mode.logPolicy = s.mode.logPolicy ∧ t.mode.holdLimit = s.mode.holdLimit ∧
      t.mode.depthPolicy = s.mode.depthPolicy ∧ t.mode.reservation = s.mode.reservation ∧
      t.flt.divisor = s.flt.divisor ∧ t.flt.deadlineIn = s.flt.deadlineIn ∧ t.flt.actions = s.flt.actions :=
  ⟨congrArg Layout.win h, congrArg Layout.logPolicy h, congrArg Layout.holdLimit h, congrArg Layout.depthPolicy h,
    congrArg Layout.reservation h, congrArg Layout.divisor h, congrArg Layout.deadlineIn h, congrArg Layout.actions h⟩

/-- Settles O17: each change of the layout has its own command. -/
theorem layoutAndMapChangeOnlyAtTheirEvents : Obligations.LayoutAndMapChangeOnlyAtTheirEvents := by
  intro i s t h hreset
  cases exec_layoutChange h with
  | kept hl =>
    exact ⟨fun _ => values_of_layout hl, fun _ => congrArg Layout.setup hl,
      fun j hj => absurd (congrArg (fun l => l.map.read j) hl) hj⟩
  | reset c => exact absurd rfl (hreset c)
  | left hs hm => exact ⟨fun hne => absurd rfl hne, fun _ => hs, fun j hj => absurd (by rw [hm]) hj⟩
  | item n v setup hl =>
    exact ⟨fun _ => values_of_layout hl, fun hne => absurd rfl (hne n v),
      fun j hj => absurd (congrArg (fun l => l.map.read j) hl) hj⟩
  | swept hl =>
    refine ⟨fun _ => values_of_layout hl, fun _ => congrArg Layout.setup hl, fun j hj => .inl ?_⟩
    have hm : t.cap.map = s.cap.map.clear s.cap.sweep.position := congrArg Layout.map hl
    rw [hm] at hj ⊢
    obtain rfl : j = s.cap.sweep.position := by_contra fun hne => hj (CaptureMap.read_clear_other _ hne)
    exact ⟨rfl, rfl, CaptureMap.read_clear_same _ _⟩
  | captured k d n line c hd hc hl =>
    refine ⟨fun _ => values_of_layout hl, fun _ => congrArg Layout.setup hl, fun j hj => .inr ?_⟩
    have hm : t.cap.map = s.cap.map.write c.mapIndex c.serial := congrArg Layout.map hl
    rw [hm] at hj ⊢
    obtain rfl : j = c.mapIndex := by_contra fun hne => hj (CaptureMap.read_write_other _ hne _)
    exact ⟨k, d, n, line, c, rfl, hd, hc, rfl, CaptureMap.read_write_same _ _ _⟩

end Sys2Proof.AccessPath
end

/-! ## The sweep and the end of a capture (R40, R49 to R56) -/

section
namespace Sys2Proof.CapturePath

open Sys2Proof Sys2Proof.Machine Sys2Proof.AccessPath

/-! ### The sweep (R56) -/

/-- A clearing before the last moves the position up. -/
theorem sweepOne_of_lt {s : State} (h : s.cap.sweep.position < 32767) :
    s.sweepOne = { s with
      cap.map := s.cap.map.clear s.cap.sweep.position
      cap.sweep := { inFlight := s.cap.sweep.inFlight, position := s.cap.sweep.position + 1 } } :=
  if_pos (Nat.succ_lt_succ h)

/-- The last clearing ends the sweep with SWEEP_DONE. -/
theorem sweepOne_of_last {s : State} (h : s.cap.sweep.position = 32767) :
    s.sweepOne = State.post { s with
      cap.map := s.cap.map.clear s.cap.sweep.position
      cap.sweep := { inFlight := false, position := 32768 } } .sweepDone 0#16 :=
  if_neg (by simp [h])

theorem sweepOne_map (s : State) : s.sweepOne.cap.map = s.cap.map.clear s.cap.sweep.position :=
  congrArg Layout.map (layout_sweepOne s)

/-- Settles O39: the sweep clears the entry at its position, and what else it does depends on whether that is the last. -/
theorem sweepClearsOneEntry : Obligations.SweepClearsOneEntry := by
  intro s hr hf
  have hexec : exec .sweepClear s = .next s.sweepOne := congrArg Host.Outcome.next (if_pos (by simp [hr, hf]))
  refine ⟨s.sweepOne, hexec, ?_, fun j hj => ?_, fun hlt => ?_, fun hlast => ?_⟩
  · rw [sweepOne_map, CaptureMap.read_clear_same]
  · rw [sweepOne_map, CaptureMap.read_clear_other _ hj]
  · rw [sweepOne_map, sweepOne_of_lt hlt, hf]
  · rw [sweepOne_map, sweepOne_of_last hlast]
    rfl

/-! ### The end of a capture (R49 to R54) -/

theorem retained_iff {s : State} {c : CaptureSlot} :
    s.retained c = true ↔ ∃ r ∈ s.log.staging, r.seq = c.seq ∧ r.content = .pending := by
  simp [State.retained]

/-- The write is present: the slot names an entry of the table. -/
def WritePresent (s : State) (c : CaptureSlot) (e : Txn) : Prop := c.write = some e.tag ∧ s.findTxn e.tag = some e

section ends

variable {s : State} {c : CaptureSlot} {e : Txn}

/-- An OK completion with the write present: the record first, then the write (R50, R52). -/
theorem captureOk_present (hw : WritePresent s c e) (d : LineData) :
    s.captureOk c d = Effect.issued (if s.retained c then Effect.recordMade s c d else s) e := by
  obtain ⟨hc, he⟩ := hw
  have he' : (Effect.recordMade s c d).findTxn e.tag = some e := he
  unfold State.captureOk
  rw [hc]
  by_cases hr : s.retained c = true
  · simp only [if_pos hr, Option.bind_some]
    change (match (Effect.recordMade s c d).findTxn e.tag with | some e => _ | none => _) = _
    rw [he']
    rfl
  · simp only [if_neg hr, Option.bind_some, he]
    rfl

/-- An OK completion with the write absent (R52, R53). -/
theorem captureOk_absent (hc : c.write = none) (d : LineData) :
    s.captureOk c d = if s.retained c then Effect.recordMade s c d else s := by
  unfold State.captureOk
  rw [hc]
  rfl

/-- An ERR completion with the write present: the record first, then the write and the event (R51, R52). -/
theorem captureErr_present (hc : c.write = some e.tag) :
    s.captureErr c =
      Effect.posted (Effect.answered (if s.retained c then Effect.recordVoid s c else s) e.tag .memerr [])
        (.captureError c.line) c.serial := by
  unfold State.captureErr
  rw [hc]
  rfl

/-- An ERR completion with the write absent (R52, R53). -/
theorem captureErr_absent (hc : c.write = none) :
    s.captureErr c =
      Effect.posted (if s.retained c then Effect.recordVoid s c else s) (.captureError c.line) c.serial := by
  unfold State.captureErr
  rw [hc]
  rfl

end ends

/-- The end of a capture that was not abandoned, by its answer: R50 for an OK, R51 for an ERR. -/
def captureEnd (s : State) (c : CaptureSlot) : LineResponse → State
  | .ok d => s.captureOk c d
  | .err => s.captureErr c

/-- The capture that a PRE_IMAGE_RESPONSE in downstream slot `k` ends: the one in capture slot `n`, whose fields are `c`. -/
structure CaptureEnds (s : State) (k : DTag) (n : Nat) (c : CaptureSlot) : Prop where
  rstN : s.rstN = true
  dslot : ∃ line, s.dslot k = .outstanding (.slot n) line false
  slot : s.cap.slots.getD n none = some c

namespace CaptureEnds

variable {s u : State} {k : DTag} {n : Nat} {c : CaptureSlot}

/-- The event is that of the capture's completion, with the downstream slot FREE. -/
theorem gives (h : CaptureEnds s k n c) {resp : LineResponse} (hu : (s.freeDownSlot k).completeCapture n resp = u)
    (hr : u.rstN = s.rstN) : Effect.Gives (exec (.preImageResponse k resp) s) u := by
  obtain ⟨line, hk⟩ := h.dslot
  refine gives_of_settle ?_ (hr.trans h.rstN)
  show execPreImageResponse k resp s = _
  rw [execPreImageResponse, hk, ← hu]

/-- An abandoned slot only becomes FREE (R54). -/
theorem gives_abandoned (h : CaptureEnds s k n c) (ha : c.abandoned = true) (resp : LineResponse) :
    Effect.Gives (exec (.preImageResponse k resp) s) (Effect.captureEnded s k n) := by
  refine h.gives ?_ rfl
  unfold State.completeCapture
  rw [State.freeDownSlot_cap, h.slot]
  exact if_pos ha

/-- A capture that was not abandoned ends by its answer (R49). -/
theorem gives_ended (h : CaptureEnds s k n c) (ha : c.abandoned = false) {resp : LineResponse}
    (hu : captureEnd (Effect.captureEnded s k n) c resp = u) (hr : u.rstN = s.rstN) :
    Effect.Gives (exec (.preImageResponse k resp) s) u := by
  refine h.gives (.trans ?_ hu) hr
  unfold State.completeCapture
  rw [State.freeDownSlot_cap, h.slot]
  dsimp only
  rw [if_neg (by simp [ha])]
  cases resp <;> rfl

end CaptureEnds

/-- Settles O48: the record is completed by the answer, and the write is issued or answered MEMERR. -/
theorem preImageResponseCompletesTheCapture : Obligations.PreImageResponseCompletesTheCapture := by
  intro k n line c e s hr hk hc ha hw he hret v
  have h : CaptureEnds s k n c := ⟨hr, ⟨line, hk⟩, hc⟩
  have hret' : v.retained c = true := retained_iff.2 hret
  have hv : WritePresent v c e := ⟨hw, he⟩
  refine ⟨fun d => h.gives_ended ha ((captureOk_present hv d).trans (by rw [if_pos hret'])) rfl, ?_⟩
  rintro resp rfl
  exact h.gives_ended ha ((captureErr_present hw).trans (by rw [if_pos hret'])) rfl

/-- Settles O49, case by case: what the answer completes depends on whether the write is present and the record retained. -/
theorem preImageResponseWithoutWriteOrRecord : Obligations.PreImageResponseWithoutWriteOrRecord := by
  intro k n line c resp s hr hk hc retained v
  have h : CaptureEnds s k n c := ⟨hr, ⟨line, hk⟩, hc⟩
  have hret : v.retained c = true ↔ retained := retained_iff
  refine ⟨fun ha => h.gives_abandoned ha resp, ?_, ?_, ?_, ?_, ?_⟩
  · rintro ha hw hrec d rfl
    exact h.gives_ended ha ((captureOk_absent hw d).trans (if_pos (hret.2 hrec))) rfl
  · rintro ha hw hrec rfl
    exact h.gives_ended ha ((captureErr_absent hw).trans (by rw [if_pos (hret.2 hrec)])) rfl
  · intro ha hw hrec
    cases resp with
    | ok d => exact h.gives_ended ha ((captureOk_absent hw d).trans (if_neg (mt hret.1 hrec))) rfl
    | err => exact h.gives_ended ha ((captureErr_absent hw).trans (by rw [if_neg (mt hret.1 hrec)]; rfl)) rfl
  · rintro e d ha hw he hrec rfl
    have hv : WritePresent v c e := ⟨hw, he⟩
    exact h.gives_ended ha ((captureOk_present hv d).trans (by rw [if_neg (mt hret.1 hrec)])) rfl
  · rintro e ha hw he hrec rfl
    exact h.gives_ended ha ((captureErr_present hw).trans (by rw [if_neg (mt hret.1 hrec)])) rfl

end Sys2Proof.CapturePath
end

/-! ## The grant of a capture to the one waiting write (R46 to R48, R76, R77) -/

section
namespace Sys2Proof.CapturePath

open Sys2Proof Sys2Proof.Machine Sys2Proof.AccessPath

/-! ### More rounds than suffice change nothing -/

theorem startHold_startHold (s : State) : s.startHold.startHold = s.startHold := by
  refine startHold_of_running ?_
  rw [State.startHold_log]
  cases hr : s.log.hold.running <;> simp [hr]

/-- One round, told apart by what it does: nothing, a grant, a break, or a refusal that waits. -/
theorem grantLoop_succ (n : Nat) (s : State) :
    State.grantLoop (n + 1) false s =
      if s.cap.waitList.isEmpty || !s.canAsk then s
      else if s.logCount < s.win.capacity then State.grantLoop n false s.grantOldest
      else if s.mode.logPolicy = .break then State.grantLoop n false (s.breakLowest .logFull)
      else s.startHold := by
  rw [State.grantLoop]
  cases s.mode.logPolicy <;> simp

/-- A further round after `n` of them. -/
theorem grantLoop_succ_last (n : Nat) (s : State) :
    State.grantLoop (n + 1) false s = State.grantLoop 1 false (State.grantLoop n false s) := by
  induction n generalizing s with
  | zero => rfl
  | succ n ih =>
    by_cases hnone : (s.cap.waitList.isEmpty || !s.canAsk) = true
    · simp only [grantLoop_succ, if_pos hnone]
    by_cases hspace : s.logCount < s.win.capacity
    · have hround : ∀ m, State.grantLoop (m + 1) false s = State.grantLoop m false s.grantOldest := fun m => by
        rw [grantLoop_succ, if_neg hnone, if_pos hspace]
      rw [hround, hround, ih]
    by_cases hbreak : s.mode.logPolicy = .break
    · have hround : ∀ m, State.grantLoop (m + 1) false s = State.grantLoop m false (s.breakLowest .logFull) := fun m => by
        rw [grantLoop_succ, if_neg hnone, if_neg hspace, if_pos hbreak]
      rw [hround, hround, ih]
    · have hround : ∀ m, State.grantLoop (m + 1) false s = s.startHold := fun m => by
        rw [grantLoop_succ, if_neg hnone, if_neg hspace, if_neg hbreak]
      have hcount : ¬s.startHold.logCount < s.startHold.win.capacity := hspace
      have hpolicy : ¬s.startHold.mode.logPolicy = .break := hbreak
      rw [hround, hround, grantLoop_succ, if_neg hcount, if_neg hpolicy, startHold_startHold, ite_self]

/-- Where the rounds suffice, more of them change nothing. -/
theorem grantLoop_add {n : Nat} {s : State} (hw : WaitListInTable s) (hn : s.cap.waitList.length + intactFrames s < n)
    (k : Nat) : State.grantLoop (n + k) false s = State.grantLoop n false s := by
  induction k with
  | zero => rfl
  | succ k ih => rw [← Nat.add_assoc, grantLoop_succ_last, ih, grantLoop_of_nothing (grantLoop_ends n hw hn)]

/-- Any number of rounds that suffices makes the grants of an event. -/
theorem grantLoop_eq_grantCaptures {n : Nat} {s : State} (hw : WaitListInTable s)
    (hn : s.cap.waitList.length + intactFrames s < n) : State.grantLoop n false s = s.grantCaptures := by
  have hrounds : s.cap.waitList.length + intactFrames s < s.grantRounds := by
    have : intactFrames s ≤ s.depth := List.countP_le_length
    unfold State.grantRounds
    omega
  unfold State.grantCaptures
  rcases Nat.le_total n s.grantRounds with h | h
  · rw [← Nat.add_sub_of_le h, grantLoop_add hw hn]
  · rw [← Nat.add_sub_of_le h, grantLoop_add hw hrounds]

/-! ### The break of a frame (R15, R43) -/

/-- What a break leaves unchanged before the waiting writes are judged again: all but the stack, the log and the link, where
it discards staged records at most. -/
structure BreaksInto (s : State) (stack : List Frame) (t : State) : Prop where
  stack : t.frames.stack = stack
  up : t.up = s.up
  cap : t.cap = s.cap
  engine : t.engine = s.engine
  rstN : t.rstN = s.rstN
  staging : t.log.staging.length ≤ s.log.staging.length

theorem reclaim_breaksInto (s : State) (stack : List Frame) (q : Seq) :
    BreaksInto s stack (({ s with frames.stack := stack } : State).reclaim q) := by
  have hlen : (s.log.moveTail q).staging.length ≤ s.log.staging.length := List.length_filter_le _ _
  unfold State.reclaim
  dsimp only
  split
  · exact ⟨rfl, rfl, rfl, rfl, rfl, hlen⟩
  · exact ⟨rfl, rfl, rfl, rfl, rfl, hlen⟩

/-- All that a break can do: nothing where every frame is BROKEN; otherwise the lowest INTACT frame `g` becomes BROKEN, and
the waiting writes are judged again where it was the top (R15, R43). -/
theorem breakLowest_cases (s : State) (cause : BreakCause) :
    s.breakLowest cause = s ∨
      ∃ lows g above t, s.frames.stack = lows ++ g :: above ∧
        BreaksInto s (lows ++ { g with status := .broken } :: above) t ∧
        (above = [] → s.breakLowest cause = t.rejudge) ∧ (above ≠ [] → s.breakLowest cause = t) := by
  unfold State.breakLowest
  split
  · exact .inl rfl
  · rename_i g above hsplit
    have hstack := List.takeWhile_append_dropWhile (p := fun x : Frame => x.status == .broken) (l := s.frames.stack)
    rw [hsplit] at hstack
    have hinto := reclaim_breaksInto s
      (s.frames.stack.takeWhile (·.status == .broken) ++ { g with status := .broken } :: above)
      ((above.head?.map Frame.start).getD s.log.head)
    obtain ⟨h1, h2, h3, h4, h5, h6⟩ := hinto
    refine .inr ⟨_, g, above, State.post _ (.frameBroken cause) g.serial, hstack.symm, ⟨h1, h2, h3, h4, h5, h6⟩, ?_, ?_⟩
    · rintro rfl
      rfl
    · intro hne
      exact if_neg (by simpa using hne)

/-- Under a BROKEN top no write needs a capture, so one that waits alone is issued and none is left (Table 3.1, R43). -/
theorem rejudge_waitList_of_broken {s : State} {f : Frame} {e : Txn} (hf : s.frames.stack.getLast? = some f)
    (hb : f.status = .broken) (hw : s.cap.waitList = [e.tag]) (he : s.findTxn e.tag = some e) :
    s.rejudge.cap.waitList = [] := by
  have hone : (s.rejudgeOne e.tag).cap.waitList = [] := by
    have hneeds : s.needsCapture e.mapIndex = false := by
      rw [needsCapture_of_top hf, hb]
      rfl
    unfold State.rejudgeOne
    rw [he]
    simp [hneeds, hw]
  unfold State.rejudge
  rw [hw]
  dsimp only [List.foldl_cons, List.foldl_nil]
  rw [if_pos (by rw [hone]; rfl)]
  exact hone

/-! ### The one waiting write -/

/-- The write of entry `e` waits alone under the INTACT top `f`, and may ask for log space: the lowest FREE slot is `n`. -/
structure GrantDue (s : State) (e : Txn) (n : Nat) (f : Frame) : Prop where
  rstN : s.rstN = true
  idle : s.engine.phase = .idle
  top : s.frames.stack.getLast? = some f
  intact : f.status = .intact
  waitList : s.cap.waitList = [e.tag]
  entry : s.findTxn e.tag = some e
  slot : s.cap.slots.findIdx? Option.isNone = some n
  staging : s.log.staging.length < 8

namespace GrantDue

variable {s : State} {e : Txn} {n : Nat} {f : Frame}

theorem canAsk (h : GrantDue s e n f) : s.canAsk = true := by
  have htop : s.topIntact = true := by
    unfold State.topIntact
    rw [show s.top = some f from h.top]
    simp [h.intact]
  have hslot : s.cap.slots.any Option.isNone = true := by
    rw [← List.findIdx?_isSome, h.slot]
    rfl
  exact canAsk_iff.2 ⟨h.rstN, rollingBack_eq_false_iff.2 h.idle, htop, hslot, h.staging⟩

theorem exec_eq (h : GrantDue s e n f) : exec .captureGrant s = .next s.grantCaptures.settle :=
  congrArg Host.Outcome.next (if_pos (by simp [h.waitList, h.canAsk]))

/-- The first round of the grants deals with the write. -/
theorem grantCaptures_eq (h : GrantDue s e n f) :
    s.grantCaptures =
      if s.logCount < s.win.capacity then State.grantLoop (s.depth + 1) false s.grantOldest
      else if s.mode.logPolicy = .break then State.grantLoop (s.depth + 1) false (s.breakLowest .logFull)
      else s.startHold := by
  have hrounds : s.grantRounds = (s.depth + 1) + 1 := by
    simp only [State.grantRounds, h.waitList, List.length_singleton]
    omega
  rw [State.grantCaptures, hrounds, grantLoop_succ, if_neg (by simp [h.waitList, h.canAsk])]

/-- The grant of R47. -/
theorem grantOldest_eq (h : GrantDue s e n f) : s.grantOldest = Effect.captureGranted s e n f := by
  have hserial : s.topSerial = f.serial := by
    unfold State.topSerial
    rw [show s.top = some f from h.top]
    rfl
  unfold State.grantOldest
  rw [h.waitList]
  dsimp only
  rw [h.entry, h.slot, hserial]
  rfl

/-- Below the capacity the write is granted (R47, R76). -/
theorem gives_granted (h : GrantDue s e n f) (hc : s.logCount < s.win.capacity) :
    Effect.Gives (exec .captureGrant s) (Effect.captureGranted s e n f) := by
  refine gives_of_settle ?_ h.rstN
  rw [h.exec_eq, h.grantCaptures_eq, if_pos hc, h.grantOldest_eq, CaptureDue.grantLoop_of_waitList_nil rfl]

/-- At the capacity under WAIT the hold timer runs (R77). -/
theorem gives_waits (h : GrantDue s e n f) (hc : s.win.capacity ≤ s.logCount) (hp : s.mode.logPolicy = .wait) :
    Effect.Gives (exec .captureGrant s) s.startHold := by
  refine gives_of_settle ?_ h.rstN
  rw [h.exec_eq, h.grantCaptures_eq, if_neg (Nat.not_lt.2 hc), if_neg (by simp [hp])]

/-- At the capacity under BREAK a frame is broken and the grants go on from there (R48). -/
theorem exec_of_break (h : GrantDue s e n f) (hc : s.win.capacity ≤ s.logCount) (hp : s.mode.logPolicy = .break) :
    exec .captureGrant s = .next (State.grantLoop (s.depth + 1) false (s.breakLowest .logFull)).settle := by
  rw [h.exec_eq, h.grantCaptures_eq, if_neg (Nat.not_lt.2 hc), if_pos hp]

/-- A break after which the write still waits was not that of the top, which ends the wait, so the write may ask again
(R15, R43). -/
theorem after_break (h : GrantDue s e n f) {cause : BreakCause}
    (hw : (s.breakLowest cause).cap.waitList = [e.tag]) : GrantDue (s.breakLowest cause) e n f := by
  rcases breakLowest_cases s cause with hb | ⟨lows, g, above, t, hstack, ht, htop, hlower⟩
  · rwa [hb]
  have htw : t.cap.waitList = [e.tag] := ht.cap ▸ h.waitList
  have hte : t.findTxn e.tag = some e := by
    unfold State.findTxn
    rw [ht.up]
    exact h.entry
  by_cases habove : above = []
  · have hlast : t.frames.stack.getLast? = some { g with status := .broken } := by simp [ht.stack, habove]
    rw [htop habove, rejudge_waitList_of_broken hlast rfl htw hte] at hw
    cases hw
  · have hlast : t.frames.stack.getLast? = some f := by
      obtain ⟨a, above, rfl⟩ := List.exists_cons_of_ne_nil habove
      rw [← h.top, ht.stack, hstack]
      simp [List.getLast?_append, List.getLast?_cons]
    rw [hlower habove]
    exact {
      rstN := ht.rstN.trans h.rstN
      idle := ht.engine ▸ h.idle
      top := hlast
      intact := h.intact
      waitList := htw
      entry := hte
      slot := ht.cap ▸ h.slot
      staging := ht.staging.trans_lt h.staging }

/-- The rounds left after a break suffice for the grants attempted again. -/
theorem grantLoop_after_break (h : GrantDue s e n f) {cause : BreakCause}
    (hb : GrantDue (s.breakLowest cause) e n f) :
    State.grantLoop (s.depth + 1) false (s.breakLowest cause) = (s.breakLowest cause).grantCaptures := by
  obtain ⟨-, -, htop, -, -⟩ := canAsk_iff.1 h.canAsk
  have hless := (breakLowest_breaks s cause (intactFrames_pos htop)).1
  have hdepth : intactFrames s ≤ s.depth := List.countP_le_length
  refine grantLoop_eq_grantCaptures (fun t ht => ?_) ?_
  · rw [hb.waitList, List.mem_singleton] at ht
    exact ht ▸ List.mem_map.2 ⟨e, findTxn_mem hb.entry⟩
  · rw [hb.waitList, List.length_singleton]
    omega

end GrantDue

/-- Settles O50: the first round grants the write, starts the hold timer, or breaks a frame; after a break that leaves the
write waiting, the rounds that follow are those of a new attempt. -/
theorem captureGrantReservesTheHead : Obligations.CaptureGrantReservesTheHead := by
  intro e n f s hr hidle htop hintact hw he hslot hst
  have h : GrantDue s e n f := ⟨hr, hidle, htop, hintact, hw, he, hslot, hst⟩
  refine ⟨h.gives_granted, h.gives_waits, fun hc hp => ⟨fun hwait => ?_, fun hnone => ?_⟩⟩
  · have hb := h.after_break hwait
    rw [h.exec_of_break hc hp, hb.exec_eq, h.grantLoop_after_break hb]
  · refine gives_of_settle ?_ ((breakLowest_keeps s .logFull).rstN.trans hr)
    rw [h.exec_of_break hc hp, CaptureDue.grantLoop_of_waitList_nil hnone]

end Sys2Proof.CapturePath
end

/-! ## The bounds of the blocks: what an event leaves of the capture slots, the Staging Queue and the sweep (R45, R56, R67) -/

section
namespace Sys2Proof.BlockBounds

open Sys2Proof Sys2Proof.Machine

/-- The bounds of `State.captureLogOk` but for the Capture Map: four capture slots, at most eight staged records, and a sweep
in flight with an entry to clear. -/
structure Room (slots : List (Option CaptureSlot)) (staging : List StagingEntry) (sweep : Sweep) : Prop where
  slots : slots.length = 4
  staging : staging.length ≤ 8
  sweep : sweep.inFlight = true → sweep.position < 32768

/-- The bounds hold of a state. -/
def RoomOk (s : State) : Prop := Room s.cap.slots s.log.staging s.cap.sweep

theorem captureLogOk_iff {s : State} : s.captureLogOk = true ↔ RoomOk s ∧ s.cap.map.wf = true := by
  simp only [State.captureLogOk, Bool.and_eq_true, Bool.or_eq_true, beq_iff_eq, decide_eq_true_eq, Bool.not_eq_true',
    ← Bool.not_eq_true, ← imp_iff_not_or]
  exact ⟨fun ⟨⟨⟨h1, h2⟩, h3⟩, h4⟩ => ⟨⟨h1, h2, h4⟩, h3⟩, fun ⟨⟨h1, h2, h4⟩, h3⟩ => ⟨⟨⟨h1, h2⟩, h3⟩, h4⟩⟩

namespace Room

variable {slots : List (Option CaptureSlot)} {staging : List StagingEntry} {sweep : Sweep}

theorem of_slots (h : Room slots staging sweep) {slots' : List (Option CaptureSlot)} (hl : slots'.length = slots.length) :
    Room slots' staging sweep := ⟨hl.trans h.slots, h.staging, h.sweep⟩

theorem of_staging (h : Room slots staging sweep) {staging' : List StagingEntry} (hl : staging'.length ≤ staging.length) :
    Room slots staging' sweep := ⟨h.slots, hl.trans h.staging, h.sweep⟩

theorem of_startSweep (h : Room slots staging sweep) : Room slots staging { inFlight := true, position := 0 } :=
  ⟨h.slots, h.staging, fun _ => by decide⟩

end Room

variable {s : State}

/-- Other blocks change as they will. -/
theorem RoomOk.of_eq {t : State} (ok : RoomOk s) (hc : t.cap = s.cap) (hl : t.log.staging = s.log.staging) : RoomOk t := by
  unfold RoomOk
  rwa [hc, hl]

theorem post_room (ok : RoomOk s) (b : EventBody) (q : Serial) : RoomOk (s.post b q) := ok.of_eq rfl rfl

theorem answer_room (ok : RoomOk s) (a : CtlAnswer) : RoomOk (s.answer a) := ok.of_eq rfl rfl

theorem foldl_room {α : Type} {f : State → α → State} (hf : ∀ s a, RoomOk s → RoomOk (f s a)) (l : List α)
    (ok : RoomOk s) : RoomOk (l.foldl f s) := by
  induction l generalizing s with
  | nil => exact ok
  | cons a l ih => exact ih (hf s a ok)

theorem finish_room (ok : RoomOk s) (t : Tag) (c : UpCode) (d : List Beat) : RoomOk (s.finish t c d) :=
  ok.of_slots (List.length_map _)

/-! ### The grants of captures -/

theorem judge_room (ok : RoomOk s) (e : Txn) : RoomOk (s.judge e) := by
  unfold State.judge
  split
  · exact ok
  · exact ok

theorem rejudgeOne_room (ok : RoomOk s) (t : Tag) : RoomOk (s.rejudgeOne t) := by
  unfold State.rejudgeOne
  split
  · exact ok
  · split
    · exact ok
    · exact ok

theorem rejudge_room (ok : RoomOk s) : RoomOk s.rejudge := by
  have h := foldl_room (fun _ t ok => rejudgeOne_room ok t) s.cap.waitList ok
  unfold State.rejudge
  dsimp only
  split
  · exact h
  · exact h

theorem reclaim_room (ok : RoomOk s) (q : Seq) : RoomOk (s.reclaim q) := by
  have h : Room s.cap.slots (s.log.moveTail q).staging s.cap.sweep := ok.of_staging (List.length_filter_le _ _)
  unfold State.reclaim
  dsimp only
  split
  · exact h
  · exact h

theorem breakLowest_room (ok : RoomOk s) (c : BreakCause) : RoomOk (s.breakLowest c) := by
  unfold State.breakLowest
  split
  · exact ok
  · rename_i f above _
    dsimp only
    have h : ∀ stack q, RoomOk ((({ s with frames.stack := stack } : State).reclaim q).post (.frameBroken c) f.serial) :=
      fun stack q => reclaim_room (s := { s with frames.stack := stack }) ok q
    split
    · exact rejudge_room (h _ _)
    · exact h _ _

/-- A grant takes a slot and adds a staged record, for which the Staging Queue has room (R46). -/
theorem grantOldest_room (ok : RoomOk s) (hstaging : s.log.staging.length < 8) : RoomOk s.grantOldest := by
  unfold State.grantOldest
  split
  · exact ok
  · split
    · exact ⟨(List.length_set ..).trans ok.slots, by simpa using hstaging, ok.sweep⟩
    · exact ok

theorem grantLoop_room (n : Nat) (x : Bool) (ok : RoomOk s) : RoomOk (State.grantLoop n x s) := by
  induction n generalizing s x with
  | zero => exact ok
  | succ n ih =>
    unfold State.grantLoop
    split
    · exact ok
    rename_i hask
    split
    · have hstaging : s.log.staging.length < 8 := by simp_all [AccessPath.canAsk_iff]
      exact ih _ (grantOldest_room ok hstaging)
    split
    · exact ih _ (breakLowest_room ok _)
    split
    · exact ih _ (breakLowest_room ok _)
    · exact ok

theorem grantCaptures_room (ok : RoomOk s) : RoomOk s.grantCaptures := grantLoop_room _ _ ok

theorem expireHold_room (ok : RoomOk s) : RoomOk s.expireHold :=
  grantLoop_room _ _ (breakLowest_room (s := s.stopHold) ok _)

/-! ### The Upstream Port -/

theorem proceed_room (ok : RoomOk s) (e : Txn) : RoomOk (s.proceed e) := by
  unfold State.proceed
  split
  · exact judge_room ok e
  · exact ok

theorem wake_room (ok : RoomOk s) : RoomOk s.wake := by
  refine foldl_room (fun s t ok => ?_) _ ok
  unfold State.wakeOne
  split
  · exact ok
  · split
    · exact proceed_room ok _
    · exact ok

theorem release_room (ok : RoomOk s) (c : HoldCause) : RoomOk (s.release c) := by
  refine foldl_room (fun s t ok => ?_) _ ok
  unfold State.releaseOne
  split
  · exact ok
  · split
    · exact proceed_room ok _
    · exact ok

theorem enroll_room (ok : RoomOk s) (e : Txn) : RoomOk (s.enroll e) := by
  unfold State.enroll
  dsimp only
  split
  · exact ok
  split
  · exact ok
  split
  · exact proceed_room (by exact ok) e
  · exact ok

theorem accept_room (ok : RoomOk s) (r : Request) : RoomOk (s.accept r) := by
  unfold State.accept
  repeat' split
  · exact ok
  · exact ok
  · exact enroll_room ok _
  · exact ok
  · exact enroll_room ok _
  · exact enroll_room ok _

theorem acceptPresented_room (ok : RoomOk s) : RoomOk s.acceptPresented := by
  unfold State.acceptPresented
  split
  · exact ok
  · split
    · exact accept_room (by exact ok) _
    · exact ok

/-! ### Frames, the log writer and the Rollback Engine -/

theorem push_room (ok : RoomOk s) (c : Serial × Bool) (o : FrameOrigin) : RoomOk (s.push c o) := by
  unfold State.push
  dsimp only
  split
  · exact ok.of_startSweep
  · exact ok

theorem fold_room (ok : RoomOk s) : RoomOk s.fold := by
  unfold State.fold
  split
  · dsimp only
    split
    · exact reclaim_room (s := State.post { s with frames.stack := _ } _ _) ok _
    · exact ok
  · exact ok

theorem decideOpen_room (ok : RoomOk s) : RoomOk s.decideOpen := by
  unfold State.decideOpen
  dsimp only
  repeat' split
  · exact answer_room ok _
  · exact answer_room ok _
  · exact answer_room (push_room (fold_room ok) _ _) _
  · exact answer_room (push_room ok _ _) _

theorem completeBarrier_room (ok : RoomOk s) : RoomOk s.completeBarrier :=
  release_room (decideOpen_room (s := { s with frames.barrier := none }) ok) _

theorem barrierIfDone_room (ok : RoomOk s) : RoomOk s.barrierIfDone := by
  unfold State.barrierIfDone
  split
  · exact completeBarrier_room ok
  · exact ok
  · exact ok

theorem startWriter_room (ok : RoomOk s) : RoomOk s.startWriter := by
  unfold State.startWriter
  split
  · exact ok
  · exact ok

theorem quiesceIfOver_room (ok : RoomOk s) : RoomOk s.quiesceIfOver := by
  unfold State.quiesceIfOver
  split
  · exact ok
  · exact ok

theorem beginStep_room (ok : RoomOk s) : RoomOk s.beginStep := by
  unfold State.beginStep
  split
  · unfold State.stageStep
    split
    · exact ok
    · exact ok.of_staging ((List.dropLast_sublist _).length_le)
    · exact ok
  · exact ok

theorem popFrames_room (ok : RoomOk s) : RoomOk s.popFrames := by
  unfold State.popFrames
  dsimp only
  split
  · exact reclaim_room (s := { s with frames.stack := s.frames.stack.take s.targetDepth }) ok _
  · exact ok

theorem giveOwed_room (ok : RoomOk s) (p : Bool) : RoomOk (s.giveOwed p) := by
  unfold State.giveOwed
  split
  · exact ok
  · exact ok
  · exact ok

theorem takeReservation_room (ok : RoomOk s) : RoomOk s.takeReservation := by
  have ok' : RoomOk { s with ctl.reserved := false } := ok
  unfold State.takeReservation
  split
  · dsimp only
    split
    · exact post_room ok' _ _
    · exact post_room (push_room ok' _ _) _ _
  · exact ok

theorem reloadIfFrames_room (ok : RoomOk s) : RoomOk s.reloadIfFrames := by
  unfold State.reloadIfFrames
  split
  · exact ok
  · exact ok

theorem completeRollback_room (ok : RoomOk s) : RoomOk s.completeRollback := by
  have hgiven := giveOwed_room (popFrames_room ok) (s.popped.any (·.status == .broken))
  have h := reloadIfFrames_room (release_room (takeReservation_room hgiven) .rollback)
  unfold State.completeRollback
  refine h.of_eq ?_ ?_ <;> dsimp only

theorem unwindLoop_room (n : Nat) (ok : RoomOk s) : RoomOk (State.unwindLoop n s) := by
  induction n generalizing s with
  | zero => exact ok
  | succ n ih =>
    unfold State.unwindLoop
    split
    · split
      · exact completeRollback_room ok
      · exact ih (beginStep_room ok)
    · exact ok

/-- The arbiter's grants leave the Capture Unit and the Log Unit. -/
theorem arbitrate_room (ok : RoomOk s) : RoomOk s.arbitrate := by
  have h := arbitrate_keeps s
  unfold RoomOk
  rwa [h.cap, h.log]

/-- Whatever is due at an event keeps the bounds. -/
theorem settle_room (ok : RoomOk s) : RoomOk s.settle := by
  unfold State.settle
  split
  · have h1 := barrierIfDone_room (grantCaptures_room (acceptPresented_room (wake_room ok)))
    have h2 := quiesceIfOver_room (startWriter_room (grantCaptures_room h1))
    exact arbitrate_room (startWriter_room (grantCaptures_room (unwindLoop_room _ h2)))
  · exact ok

end Sys2Proof.BlockBounds
end

/-! ## The bounds of the blocks: what each direct effect keeps (R45, R67, R150, R156, R157) -/

section
namespace Sys2Proof.BlockBounds

open Sys2Proof Sys2Proof.Machine

/-! ### The event queue and the frame on the link -/

/-- `State.eventsOk` as a proposition about the Management Link Unit (R156, R157). -/
structure EventsOk (l : LinkUnit) : Prop where
  room : l.events.length ≤ 32
  overrun : l.overrun = true → l.events ≠ []

theorem eventsOk_iff {s : State} : s.eventsOk = true ↔ EventsOk s.link := by
  simp only [State.eventsOk, Bool.and_eq_true, Bool.or_eq_true, decide_eq_true_eq, Bool.not_eq_true', ← Bool.not_eq_true,
    ← imp_iff_not_or, List.isEmpty_iff]
  exact ⟨fun ⟨h1, h2⟩ => ⟨h1, h2⟩, fun ⟨h1, h2⟩ => ⟨h1, h2⟩⟩

/-- A posted record is added while there is room; the overrun flag is set beside a full queue (R156). -/
theorem post_eventsOk {l : LinkUnit} (h : EventsOk l) (e : EventRecord) : EventsOk (l.post e) := by
  unfold LinkUnit.post
  split
  · rename_i hlt
    exact ⟨by simpa using hlt, fun _ => by simp⟩
  · rename_i hfull
    exact ⟨h.room, fun _ => List.length_pos_iff.1 ((by decide : 0 < 32).trans_le (Nat.not_lt.1 hfull))⟩

theorem foldl_post_eventsOk (es : List EventRecord) {l : LinkUnit} (h : EventsOk l) :
    EventsOk (es.foldl LinkUnit.post l) := by
  induction es generalizing l with
  | nil => exact h
  | cons e es ih => exact ih (post_eventsOk h e)

/-- The removal of the front record clears the overrun flag with the last record (R157). -/
theorem removeFront_eventsOk {l : LinkUnit} (h : EventsOk l) : EventsOk l.removeFront where
  room := (List.tail_sublist _).length_le.trans h.room
  overrun ho := by simpa [LinkUnit.removeFront] using (Bool.and_eq_true_iff.1 ho).2

theorem post_frame (l : LinkUnit) (e : EventRecord) : (l.post e).frame = l.frame ∧ (l.post e).csN = l.csN := by
  unfold LinkUnit.post
  split <;> exact ⟨rfl, rfl⟩

theorem foldl_post_frame (es : List EventRecord) (l : LinkUnit) :
    (es.foldl LinkUnit.post l).frame = l.frame ∧ (es.foldl LinkUnit.post l).csN = l.csN := by
  induction es generalizing l with
  | nil => exact ⟨rfl, rfl⟩
  | cons e es ih =>
    obtain ⟨hf, hc⟩ := post_frame l e
    obtain ⟨ihf, ihc⟩ := ih (l.post e)
    exact ⟨ihf.trans hf, ihc.trans hc⟩

/-- The link's invariant speaks of the frame, CS_N and RST_N alone. -/
theorem linkOk_congr {s t : State} (hf : t.link.frame = s.link.frame) (hc : t.link.csN = s.link.csN)
    (hr : t.rstN = s.rstN) : t.linkOk = s.linkOk := by
  unfold State.linkOk
  rw [hf, hc, hr]

/-! ### What is kept -/

/-- What a direct effect keeps: each of the bounds but those of the Capture Map and of the setup table, by itself. -/
structure BoundsKept (s t : State) : Prop where
  room : RoomOk s → RoomOk t
  events : s.eventsOk = true → t.eventsOk = true
  link : s.linkOk = true → t.linkOk = true

namespace BoundsKept

variable {s t u : State}

theorem refl (s : State) : BoundsKept s s := ⟨id, id, id⟩

theorem trans (h : BoundsKept s t) (k : BoundsKept t u) : BoundsKept s u :=
  ⟨fun hs => k.room (h.room hs), fun hs => k.events (h.events hs), fun hs => k.link (h.link hs)⟩

/-- The link is left. -/
theorem of_link_eq (hroom : RoomOk s → RoomOk t) (hl : t.link = s.link) (hr : t.rstN = s.rstN) : BoundsKept s t where
  room := hroom
  events := by
    rw [eventsOk_iff, eventsOk_iff, hl]
    exact id
  link := by
    rw [linkOk_congr (congrArg _ hl) (congrArg _ hl) hr]
    exact id

/-- The blocks that have bounds are left. -/
theorem silent (hc : t.cap = s.cap) (hs : t.log.staging = s.log.staging) (hl : t.link = s.link) (hr : t.rstN = s.rstN) :
    BoundsKept s t :=
  of_link_eq (fun ok => ok.of_eq hc hs) hl hr

/-- What posts events alone on the link. -/
theorem of_settleKeeps (k : SettleKeeps s t) (hroom : RoomOk s → RoomOk t) : BoundsKept s t where
  room := hroom
  events h := by
    obtain ⟨es, hes⟩ := k.link
    rw [eventsOk_iff] at h ⊢
    exact hes ▸ foldl_post_eventsOk es h
  link h := by
    obtain ⟨es, hes⟩ := k.link
    obtain ⟨hf, hc⟩ := foldl_post_frame es s.link
    rwa [linkOk_congr (hes ▸ hf) (hes ▸ hc) k.rstN]

theorem foldl {α : Type} {f : State → α → State} (hf : ∀ s a, BoundsKept s (f s a)) :
    ∀ (l : List α) (s : State), BoundsKept s (l.foldl f s)
  | [], s => refl s
  | a :: l, s => (hf s a).trans (foldl hf l (f s a))

end BoundsKept

/-! ### Direct effects -/

section direct

variable (s : State)

theorem post_bounds (b : EventBody) (q : Serial) : BoundsKept s (s.post b q) :=
  .of_settleKeeps (post_keeps s b q) fun ok => post_room ok b q

theorem answer_bounds (a : CtlAnswer) : BoundsKept s (s.answer a) := .silent rfl rfl rfl rfl

theorem finish_bounds (t : Tag) (c : UpCode) (d : List Beat) : BoundsKept s (s.finish t c d) :=
  .of_settleKeeps (finish_keeps s t c d) fun ok => finish_room ok t c d

theorem answerPassthrough_bounds (t : Tag) (resp : MemResponse) : BoundsKept s (s.answerPassthrough t resp) := by
  unfold State.answerPassthrough
  split
  · exact .refl s
  split
  · exact finish_bounds s _ _ _
  split
  · exact finish_bounds s _ _ _
  · exact finish_bounds s _ _ _

/-- The completion of a staged record changes the content of a record alone. -/
theorem complete_bounds (q : Seq) (x : Content) (m : CaptureMap) :
    BoundsKept s { s with log := s.log.complete q x, cap.map := m } :=
  .of_link_eq (fun ok => ok.of_staging (List.length_map _).le) rfl rfl

theorem captureOk_bounds (c : CaptureSlot) (d : LineData) : BoundsKept s (s.captureOk c d) := by
  unfold State.captureOk
  dsimp only
  by_cases hr : s.retained c = true
  · rw [if_pos hr]
    have h := complete_bounds s c.seq (.image d) (s.cap.map.write c.mapIndex c.serial)
    split
    · exact h.trans (.silent rfl rfl rfl rfl)
    · exact h
  · rw [if_neg hr]
    split
    · exact .silent rfl rfl rfl rfl
    · exact .refl s

theorem captureErr_bounds (c : CaptureSlot) : BoundsKept s (s.captureErr c) := by
  have hrecord : BoundsKept s (if s.retained c then { s with log := s.log.complete c.seq .void } else s) := by
    split
    · exact complete_bounds s c.seq .void s.cap.map
    · exact .refl s
  unfold State.captureErr
  refine .trans ?_ (post_bounds _ _ _)
  split
  · exact hrecord.trans (finish_bounds _ _ _ _)
  · exact hrecord

theorem completeCapture_bounds (n : Nat) (resp : LineResponse) : BoundsKept s (s.completeCapture n resp) := by
  have hfree : BoundsKept s { s with cap.slots := s.cap.slots.set n none } :=
    .of_link_eq (fun ok => ok.of_slots (List.length_set ..)) rfl rfl
  unfold State.completeCapture
  split
  · exact .refl s
  dsimp only
  split
  · exact hfree
  split
  · exact hfree.trans (captureOk_bounds _ _ _)
  · exact hfree.trans (captureErr_bounds _ _)

theorem cancelReservation_bounds : BoundsKept s s.cancelReservation := by
  unfold State.cancelReservation
  split
  · exact .trans (t := { s with ctl.reserved := false }) (.silent rfl rfl rfl rfl) (post_bounds _ _ _)
  · exact .refl s

/-- Entry to FAILED empties the Staging Queue and keeps the number of capture slots (R145). -/
theorem enterFailed_bounds (cause : FailCause) : BoundsKept s (s.enterFailed cause) := by
  have hdeny : BoundsKept s (s.unissuedGuarded.foldl State.deny s) :=
    .foldl (fun (s : State) (e : Txn) => finish_bounds s e.tag .denied []) _ s
  unfold State.enterFailed
  dsimp only
  refine .trans ?_ (cancelReservation_bounds _)
  refine .trans ?_ (post_bounds _ _ _)
  refine hdeny.trans ?_
  exact .of_link_eq (fun ok => ⟨(List.length_map _).trans ok.slots, Nat.zero_le _, ok.sweep⟩) rfl rfl

theorem endAttempt_bounds (j : WriterJob) : BoundsKept s (s.endAttempt j) := by
  have hidle : BoundsKept s { s with log.writer := none } := .silent rfl rfl rfl rfl
  unfold State.endAttempt
  dsimp only
  split
  · exact hidle
  split
  · exact hidle
  split
  · split
    · exact (post_bounds s _ _).trans (.silent rfl rfl rfl rfl)
    · exact hidle.trans (enterFailed_bounds _ _)
  · exact .of_link_eq (fun ok => ok.of_staging (List.length_filter_le _ _)) rfl rfl

theorem countLogAnswer_bounds (resp : MemStatus) : BoundsKept s (s.countLogAnswer resp) := by
  unfold State.countLogAnswer
  dsimp only
  split
  · exact .refl s
  split
  · exact endAttempt_bounds s _
  · exact .silent rfl rfl rfl rfl

theorem judgeReads_bounds (h : Hand) (hd im : LineResponse) : BoundsKept s (s.judgeReads h hd im) := by
  rcases AccessPath.judgeReads_cases s h hd im with ⟨cause, he⟩ | he | ⟨line, data, he⟩
  · exact he ▸ enterFailed_bounds s cause
  · exact he ▸ .silent rfl rfl rfl rfl
  · exact he ▸ .silent rfl rfl rfl rfl

theorem recordRead_bounds (b : Bool) (resp : LineResponse) : BoundsKept s (s.recordRead b resp) := by
  unfold State.recordRead
  dsimp only
  split
  · split
    · split
      · exact judgeReads_bounds s _ _ _
      · exact .silent rfl rfl rfl rfl
    · exact .refl s
  · exact .refl s

theorem recordWriteBack_bounds (resp : MemStatus) : BoundsKept s (s.recordWriteBack resp) := by
  unfold State.recordWriteBack
  dsimp only
  split
  · exact enterFailed_bounds s _
  split
  · exact .refl s
  split
  · exact .of_link_eq (fun ok => ok.of_staging (List.dropLast_sublist _).length_le) rfl rfl
  · exact .silent rfl rfl rfl rfl

theorem absorb_bounds (e : Txn) : BoundsKept s (s.absorb e) := by
  unfold State.absorb
  split
  · exact finish_bounds s _ _ _
  · exact .silent rfl rfl rfl rfl

theorem reserveOrBusy_bounds : BoundsKept s s.reserveOrBusy := by
  unfold State.reserveOrBusy
  split
  · exact .silent rfl rfl rfl rfl
  · exact answer_bounds s _

theorem abandonBarrier_bounds : BoundsKept s s.abandonBarrier := by
  unfold State.abandonBarrier
  split
  · exact .refl s
  · exact .trans (t := { s with frames.barrier := none }) (.silent rfl rfl rfl rfl) (reserveOrBusy_bounds _)

theorem release_bounds (c : HoldCause) : BoundsKept s (s.release c) :=
  .of_settleKeeps (release_keeps s c) fun ok => release_room ok c

theorem startRollback_bounds (k : AbortKind) (b : Bool) : BoundsKept s (s.startRollback k b) := by
  have hstart : BoundsKept s ({ s with engine := s.startEngine k b } : State).stopHold.stopDeadline.abandonBarrier := by
    refine .trans ?_ (abandonBarrier_bounds _)
    exact .silent rfl rfl rfl rfl
  have hend : ∀ u : State, BoundsKept u { u with cap.waitList := [] } := fun u =>
    .of_link_eq (fun ok => ⟨ok.slots, ok.staging, ok.sweep⟩) rfl rfl
  unfold State.startRollback
  dsimp only
  split
  · refine .trans ?_ (hend _)
    exact hstart.trans (.foldl absorb_bounds _ _)
  · exact hstart.trans (release_bounds _ _)

theorem requestAbort_bounds (k : AbortKind) (b : Bool) : BoundsKept s (s.requestAbort k b) := by
  unfold State.requestAbort
  split
  · exact .silent rfl rfl rfl rfl
  split
  · split
    · exact answer_bounds s _
    · exact .refl s
  · exact startRollback_bounds s k b

theorem actOnFault_bounds (x : FaultSource) (a : FaultAction) : BoundsKept s (s.actOnFault x a) := by
  have hnote : ∀ a, BoundsKept s (s.postFault x a) := fun a => post_bounds s _ _
  unfold State.actOnFault
  split
  · split
    · exact .refl s
    · exact hnote _
    · exact (hnote _).trans (requestAbort_bounds _ _ _)
    · exact (hnote _).trans (requestAbort_bounds _ _ _)
  all_goals
    split
    · exact .refl s
    all_goals exact hnote _

theorem takeLatch_bounds (line : FaultLine) : BoundsKept s (s.takeLatch line) :=
  .trans (t := { s with flt.latches := s.flt.latches.put line false }) (.silent rfl rfl rfl rfl) (actOnFault_bounds _ _ _)

theorem expireDeadline_bounds : BoundsKept s s.expireDeadline :=
  .trans (t := { s with flt.deadline := timerStopped }) (.silent rfl rfl rfl rfl) (actOnFault_bounds _ _ _)

theorem expireHold_bounds : BoundsKept s s.expireHold := .of_settleKeeps (expireHold_keeps s) expireHold_room

theorem tickHold_bounds : BoundsKept s s.tickHold := by
  have hcount : BoundsKept s { s with log.hold.value := s.log.hold.value + 1 } := .silent rfl rfl rfl rfl
  unfold State.tickHold
  dsimp only
  split
  · split
    · exact hcount.trans (expireHold_bounds _)
    · exact hcount
  · exact .refl s

theorem tickDeadline_bounds : BoundsKept s s.tickDeadline := by
  have hcount : BoundsKept s { s with flt.deadline.value := s.flt.deadline.value - 1 } := .silent rfl rfl rfl rfl
  unfold State.tickDeadline
  dsimp only
  split
  · split
    · exact hcount.trans (expireDeadline_bounds _)
    · exact hcount
  · exact .refl s

theorem countPulse_bounds : BoundsKept s s.countPulse := by
  unfold State.countPulse State.tick
  split
  · refine .trans ?_ (tickDeadline_bounds _)
    refine .trans ?_ (tickHold_bounds _)
    exact .silent rfl rfl rfl rfl
  · exact .silent rfl rfl rfl rfl

theorem commitTop_bounds : BoundsKept s s.commitTop := by
  have hpop : BoundsKept s { s with frames.stack := s.frames.stack.dropLast } := .silent rfl rfl rfl rfl
  have hreclaim : ∀ (u : State) q, BoundsKept u (u.reclaim q) := fun u q =>
    .of_settleKeeps (reclaim_keeps u q) fun ok => reclaim_room ok q
  have hrejudge : ∀ u : State, BoundsKept u u.rejudge := fun u => .of_settleKeeps (rejudge_keeps u) rejudge_room
  unfold State.commitTop
  dsimp only
  split
  · exact .refl s
  split
  · refine .trans ?_ (hrejudge _)
    refine .trans ?_ (post_bounds _ _ _)
    exact (hpop.trans (hreclaim _ _)).trans (.silent rfl rfl rfl rfl)
  · refine .trans ?_ (hrejudge _)
    refine .trans ?_ (post_bounds _ _ _)
    split
    · exact (hpop.trans (hreclaim _ _)).trans (.silent rfl rfl rfl rfl)
    · exact .silent rfl rfl rfl rfl

theorem dealOpen_bounds : BoundsKept s s.dealOpen := by
  unfold State.dealOpen
  split
  · exact reserveOrBusy_bounds s
  · exact .silent rfl rfl rfl rfl

theorem dealCommit_bounds : BoundsKept s s.dealCommit := by
  unfold State.dealCommit
  split
  · exact answer_bounds s _
  split
  · exact answer_bounds s _
  · exact (commitTop_bounds s).trans (answer_bounds _ _)

theorem present_bounds (r : Request) : BoundsKept s (s.present r) := by
  unfold State.present
  split
  · exact .refl s
  · exact .silent rfl rfl rfl rfl

theorem activate_bounds : BoundsKept s s.activate := by
  unfold State.activate
  refine .trans ?_ (post_bounds _ _ _)
  exact .silent rfl rfl rfl rfl

theorem startSweep_bounds : BoundsKept s s.startSweep := .of_link_eq (fun ok => ok.of_startSweep) rfl rfl

theorem recovered_bounds : BoundsKept s s.recovered := by
  unfold State.recovered
  refine .trans ?_ (post_bounds _ _ _)
  refine .trans ?_ (startSweep_bounds _)
  exact .silent rfl rfl rfl rfl

/-- A clearing moves the position within its range, and the last one ends the sweep (R56). -/
theorem sweepOne_bounds : BoundsKept s s.sweepOne := by
  unfold State.sweepOne
  dsimp only
  split
  · rename_i hlt
    exact .of_link_eq (fun ok => ⟨ok.slots, ok.staging, fun _ => hlt⟩) rfl rfl
  · refine .trans ?_ (post_bounds _ _ _)
    exact .of_link_eq (fun ok => ⟨ok.slots, ok.staging, fun h => nomatch h⟩) rfl rfl

/-- A hard reset meets the bounds whatever was before (R60, R149, R158). -/
theorem hardReset_bounds (c : ResetCause) : BoundsKept s (s.hardReset c) where
  room _ := ⟨rfl, Nat.zero_le _, fun _ => (by decide : 0 < 32768)⟩
  events _ := rfl
  link _ := rfl

/-- What is due at an event keeps the bounds. -/
theorem settle_bounds : BoundsKept s s.settle := .of_settleKeeps (settle_keeps s) settle_room

theorem controlRise_bounds (req : CtlRequest) {owner : State → State} (h : ∀ u, BoundsKept u (owner u)) :
    BoundsKept s (s.controlRise req owner) := by
  have htake : BoundsKept s (s.takeRequest req) := .silent rfl rfl rfl rfl
  unfold State.controlRise
  split
  · exact .refl s
  split
  · refine .trans (htake.trans ?_) (settle_bounds _)
    unfold State.dealWith
    split
    · exact h _
    · exact answer_bounds _ _
    · exact answer_bounds _ _
  · exact .silent rfl rfl rfl rfl

end direct

end Sys2Proof.BlockBounds
end

/-! ## The bounds of the blocks: every step keeps them (R40, R45, R56, R67, R150, R151, R156, R157, R160) -/

section
namespace Sys2Proof.BlockBounds

open Sys2Proof Sys2Proof.Machine Sys2Proof.AccessPath

/-! ### The commands of the management link (R150, R151) -/

section link

variable {s : State}

/-- The link receives the bytes of a command. -/
def Receiving (s : State) : Prop := ∃ bytes bits, s.link.frame = .receiving bytes bits

theorem receiving_of_ready {i : Instr} (h : s.ready i = true) : Receiving s := by
  unfold State.ready at h
  split at h
  · exact ⟨_, _, by assumption⟩
  · cases h

theorem linkOk_receiving {bytes : List Byte} {bits : List Bool} (hf : s.link.frame = .receiving bytes bits) :
    s.linkOk = true ↔
      s.link.csN = false ∧ s.rstN = true ∧ bits.length < 8 ∧ moreToCome bytes = true := by
  simp [State.linkOk, hf, and_assoc]

theorem linkOk_answered {response : List Byte} {popping : Bool} {sent : Nat}
    (hf : s.link.frame = .answered response popping sent) :
    s.linkOk = true ↔
      s.link.csN = false ∧ s.rstN = true ∧ response ≠ [] ∧ sent ≤ 8 * response.length ∧
        (popping = true → sent < 8 * response.length) := by
  cases popping <;> simp [State.linkOk, hf, and_assoc]

/-- A reply starts a response that has a byte and of which no bit has been sent (R151). -/
theorem receiving_reply_bounds (h : Receiving s) (r : LinkResult) (d : List Byte) (p : Bool) :
    BoundsKept s (s.reply r d p) where
  room := id
  events := id
  link hs := by
    obtain ⟨bytes, bits, hf⟩ := h
    obtain ⟨hc, hr, -, -⟩ := (linkOk_receiving hf).1 hs
    exact (linkOk_answered rfl).2 ⟨hc, hr, by simp, Nat.zero_le _, fun _ => by simp⟩

theorem reply_bounds {i : Instr} (h : s.ready i = true) (r : LinkResult) (d : List Byte) (p : Bool) :
    BoundsKept s (s.reply r d p) :=
  receiving_reply_bounds (receiving_of_ready h) r d p

/-- A command taken from the link changes other blocks and is answered. -/
theorem reply_bounds_of {i : Instr} {u : State} (h : s.ready i = true) (hu : BoundsKept s u)
    (hf : u.link.frame = s.link.frame) (r : LinkResult) (d : List Byte) : BoundsKept s (u.reply r d) :=
  hu.trans (receiving_reply_bounds ((receiving_of_ready h).imp fun _ => Exists.imp fun _ => hf.trans) r d false)

/-- A response sent to its end (R157). -/
theorem eventRemoved_bounds {response : List Byte} {sent : Nat} (hr : s.rstN = true)
    (hf : s.link.frame = .answered response true sent) :
    BoundsKept s
      { s with link := { s.link.removeFront with frame := .answered response false (8 * response.length) } } where
  room := id
  events h := by
    obtain ⟨hroom, hoverrun⟩ := removeFront_eventsOk (eventsOk_iff.1 h)
    exact eventsOk_iff.2 ⟨hroom, hoverrun⟩
  link h := by
    obtain ⟨hc, -, hne, -, -⟩ := (linkOk_answered hf).1 h
    exact (linkOk_answered rfl).2 ⟨hc, hr, hne, le_rfl, fun hp => nomatch hp⟩

/-- A frame begins (R150). -/
theorem csNFall_bounds :
    BoundsKept s
      { s with link.csN := false, link.frame := if s.rstN then .receiving [] [] else .absent, link.sdo := false } where
  room := id
  events := id
  link _ := by cases hr : s.rstN <;> simp [State.linkOk, moreToCome]

/-- No frame is in progress. -/
theorem frameEnds_bounds (csN : Bool) : BoundsKept s { s with link.csN := csN, link.frame := .absent } :=
  ⟨id, id, fun _ => rfl⟩

/-- While RST_N was low no frame was in progress, so its rise leaves none (R150). -/
theorem rstNRise_bounds (hr : s.rstN = false) : BoundsKept s { s with rstN := true } where
  room := id
  events := id
  link h := by
    unfold State.linkOk at h ⊢
    cases hf : s.link.frame <;> simp_all

end link

/-! ### The commands -/

/-- The downstream slot of a response becomes FREE (R128). -/
theorem freeDownSlot_bounds (s : State) (k : DTag) : BoundsKept s (s.freeDownSlot k) := .silent rfl rfl rfl rfl

theorem beginAttempt_bounds (s : State) (e : StagingEntry) (a : Attempt) : BoundsKept s (s.beginAttempt e a) :=
  .silent rfl rfl rfl rfl

theorem endQuiesce_bounds (s : State) : BoundsKept s s.endQuiesce := .silent rfl rfl rfl rfl

/-- An event settled after a direct effect that keeps the bounds. -/
theorem BoundsKept.settled {s u : State} (h : BoundsKept s u) : BoundsKept s u.settle := h.trans (settle_bounds u)

/-- Every command keeps the bounds, each by itself. -/
theorem exec_bounds {i : Instr} {s t : State} (h : exec i s = .next t) : BoundsKept s t := by
  cases i <;> obtain rfl := Host.Outcome.next.inj h
  case acceptRequest r => exact (present_bounds s r).settled
  case openFrame => exact controlRise_bounds s _ dealOpen_bounds
  case commit => exact controlRise_bounds s _ dealCommit_bounds
  case abort => exact controlRise_bounds s _ fun u => requestAbort_bounds u _ _
  case abortAll => exact controlRise_bounds s _ fun u => requestAbort_bounds u _ _
  case takeFault line =>
    split
    · exact (takeLatch_bounds s line).settled
    · exact .refl s
  case trefPulse =>
    split
    · exact (countPulse_bounds s).settled
    · exact .refl s
  case holdExpired =>
    split
    · exact (expireHold_bounds s).settled
    · exact .refl s
  case deadlineExpiry =>
    split
    · exact (expireDeadline_bounds s).settled
    · exact .refl s
  case hardReset c => exact (hardReset_bounds s c).settled
  case status =>
    split
    · rename_i hr
      exact reply_bounds hr _ _ _
    · exact .refl s
  case eventPop =>
    split
    · rename_i hr
      split
      · exact reply_bounds hr _ _ _
      · exact reply_bounds hr _ _ _
    · exact .refl s
  case eventRemoved =>
    split
    · rename_i hf
      split
      · rename_i hr
        exact eventRemoved_bounds hr hf
      · exact .refl s
    all_goals exact .refl s
  case frameRead index =>
    split
    · rename_i hr
      split
      · exact reply_bounds hr _ _ _
      · exact reply_bounds hr _ _ _
    · exact .refl s
  case setupRead item =>
    split
    · rename_i hr
      split
      · exact reply_bounds hr _ _ _
      · exact reply_bounds hr _ _ _
    · exact .refl s
  case setupWrite item value =>
    split
    · rename_i hr
      split
      · exact reply_bounds hr _ _ _
      split
      · exact reply_bounds hr _ _ _
      split
      · exact reply_bounds hr _ _ _
      · exact reply_bounds_of hr (u := { s with mode.setup := s.mode.setup.set item.toNat value })
          (.silent rfl rfl rfl rfl) rfl _ _
    · exact .refl s
  case enterSetup =>
    split
    · rename_i hr
      have hsetup := reply_bounds_of hr (u := s.toSetup) (.silent rfl rfl rfl rfl) rfl .ack []
      split
      · exact reply_bounds hr _ _ _
      · split
        · exact hsetup
        · exact reply_bounds hr _ _ _
      · exact hsetup
    · exact .refl s
  case leaveSetup =>
    split
    · rename_i hr
      split
      · split
        · exact reply_bounds hr _ _ _
        · exact (reply_bounds_of hr (activate_bounds s) (post_frame _ _).1 _ _).settled
      all_goals exact reply_bounds hr _ _ _
    · exact .refl s
  case recover =>
    split
    · rename_i hr
      split
      · exact (reply_bounds_of hr (recovered_bounds s) (post_frame _ _).1 _ _).settled
      all_goals exact reply_bounds hr _ _ _
    · exact .refl s
  case forceAbort operand =>
    split
    · rename_i hr
      have hreply := reply_bounds hr .ack [] false
      split
      · split
        · exact (hreply.trans (actOnFault_bounds _ _ _)).settled
        · exact reply_bounds hr _ _ _
      all_goals exact reply_bounds hr _ _ _
    · exact .refl s
  case unknownCommand code =>
    split
    · rename_i hr
      exact reply_bounds (Bool.and_eq_true_iff.1 hr).1 _ _ _
    · exact .refl s
  case csNRise =>
    split
    · exact .refl s
    · exact frameEnds_bounds true
  case csNFall =>
    split
    · exact csNFall_bounds
    · exact .refl s
  case rstNRise =>
    split
    · exact .refl s
    · rename_i hr
      exact (rstNRise_bounds (Bool.not_eq_true _ ▸ hr)).settled
  case barrierCompletion =>
    split
    · exact (BoundsKept.of_settleKeeps (completeBarrier_keeps s) completeBarrier_room).settled
    · exact .refl s
  case captureGrant =>
    split
    · exact (BoundsKept.of_settleKeeps (grantCaptures_keeps s) grantCaptures_room).settled
    · exact .refl s
  case passthroughResponse tag resp =>
    split
    · exact ((freeDownSlot_bounds s tag).trans (answerPassthrough_bounds _ _ _)).settled
    · exact .refl s
  case preImageResponse tag resp =>
    split
    · exact ((freeDownSlot_bounds s tag).trans (completeCapture_bounds _ _ _)).settled
    · exact .refl s
  case logWriterStart =>
    split
    · exact (beginAttempt_bounds s _ _).settled
    · exact .refl s
  case logWriteResponse tag resp =>
    have hcount := ((freeDownSlot_bounds s tag).trans (countLogAnswer_bounds _ resp)).settled
    split
    · exact hcount
    · exact hcount
    · exact .refl s
  case quiesceEnd =>
    split
    · exact (endQuiesce_bounds s).settled
    · exact .refl s
  case unwindStep =>
    split
    · exact (BoundsKept.of_settleKeeps (beginStep_keeps s) beginStep_room).settled
    · exact .refl s
  case unwindReadResponse tag resp =>
    have hread := fun b => ((freeDownSlot_bounds s tag).trans (recordRead_bounds _ b resp)).settled
    split
    · exact hread true
    · exact hread false
    · exact .refl s
  case writeBackResponse tag resp =>
    split
    · exact ((freeDownSlot_bounds s tag).trans (recordWriteBack_bounds _ _)).settled
    · exact .refl s
  case rollbackCompletion =>
    split
    · exact (BoundsKept.of_settleKeeps (completeRollback_keeps s) completeRollback_room).settled
    · exact .refl s
  case downstreamGrant =>
    split
    · exact .of_settleKeeps (arbitrate_settleKeeps s) arbitrate_room
    · exact .refl s
  case discardedResponse tag =>
    split
    · exact (freeDownSlot_bounds s tag).settled
    · exact (freeDownSlot_bounds s tag).settled
    all_goals exact .refl s
  case sweepClear =>
    split
    · exact sweepOne_bounds s
    · exact .refl s
  -- the fault line and the levels of CREQ and the handshake
  all_goals split
  all_goals exact .silent rfl rfl rfl rfl

/-! ### The Capture Map and the setup table -/

/-- The setup table of `State.setupOk`: twenty items, each in range (R160). -/
structure SetupOk (setup : List ItemValue) : Prop where
  length : setup.length = 20
  inRange : ∀ n < 20, itemInRange n (setupItem setup n) = true

theorem setupOk_iff {s : State} : s.setupOk = true ↔ SetupOk s.mode.setup := by
  simp only [State.setupOk, Bool.and_eq_true, beq_iff_eq, List.all_eq_true, List.mem_range]
  exact ⟨fun ⟨h1, h2⟩ => ⟨h1, h2⟩, fun ⟨h1, h2⟩ => ⟨h1, h2⟩⟩

theorem setupDefaults_ok : SetupOk setupDefaults := ⟨rfl, by decide⟩

/-- A value in range takes the place of an item (R154). -/
theorem set_setupOk {setup : List ItemValue} (h : SetupOk setup) {n : Nat} {v : ItemValue}
    (hv : itemInRange n v = true) : SetupOk (setup.set n v) where
  length := (List.length_set ..).trans h.length
  inRange m hm := by
    unfold setupItem
    by_cases hmn : n = m
    · subst hmn
      have : n < setup.length := h.length ▸ hm
      simpa [List.getD_eq_getElem?_getD, this] using hv
    · simpa [setupItem, List.getD_eq_getElem?_getD, List.getElem?_set_ne hmn] using h.inRange m hm

/-- A SETUP_WRITE leaves the setup table or writes a value in range (R152, R154, R160). -/
theorem setupWrite_setupOk {s t : State} {n : Byte} {v : ItemValue} (h : exec (.setupWrite n v) s = .next t)
    (hs : SetupOk s.mode.setup) : SetupOk t.mode.setup := by
  obtain rfl := Host.Outcome.next.inj h
  split
  · split
    · exact hs
    split
    · exact hs
    split
    · exact hs
    · rename_i hv
      exact set_setupOk hs (by simpa using hv)
  · exact hs

theorem exec_setupOk {i : Instr} {s t : State} (h : exec i s = .next t) (hs : SetupOk s.mode.setup) :
    SetupOk t.mode.setup := by
  have kept : (layout t).setup = (layout s).setup → SetupOk t.mode.setup := fun he => by
    rwa [show t.mode.setup = s.mode.setup from he]
  cases exec_layoutChange h with
  | kept hl => exact kept (by rw [hl])
  | reset c =>
    obtain rfl := Host.Outcome.next.inj h
    exact (settle_keeps (s.hardReset c)).mode ▸ setupDefaults_ok
  | left hsetup => exact kept hsetup
  | item n v => exact setupWrite_setupOk h hs
  | swept hl => exact kept (by rw [hl])
  | captured k d n line c _ _ hl => exact kept (by rw [hl])

theorem exec_mapWf {i : Instr} {s t : State} (h : exec i s = .next t) (hs : s.cap.map.wf = true) :
    t.cap.map.wf = true := by
  have becomes : ∀ {map : CaptureMap}, (layout t).map = map → map.wf = true → t.cap.map.wf = true := fun he hw => by
    rwa [show t.cap.map = _ from he]
  cases exec_layoutChange h with
  | kept hl => exact becomes (congrArg Layout.map hl) hs
  | reset c =>
    obtain rfl := Host.Outcome.next.inj h
    rw [(settle_keeps (s.hardReset c)).map]
    cases c with
    | rstLow => exact hs
    | powerUp => exact CaptureMap.lost_wf _
  | left _ hm => exact becomes hm hs
  | item n v setup hl => exact becomes (congrArg Layout.map hl) hs
  | swept hl => exact becomes (congrArg Layout.map hl) (CaptureMap.clear_wf hs _)
  | captured k d n line c _ _ hl => exact becomes (congrArg Layout.map hl) (CaptureMap.write_wf hs _ _)

/-- What the statement says of a step from `s` to `t`: each of the four invariants is kept by itself. -/
def BlocksKept (s t : State) : Prop :=
  (s.captureLogOk = true → t.captureLogOk = true) ∧ (s.eventsOk = true → t.eventsOk = true) ∧
    (s.setupOk = true → t.setupOk = true) ∧ (s.linkOk = true → t.linkOk = true)

theorem exec_blocksKept {i : Instr} {s t : State} (h : exec i s = .next t) : BlocksKept s t := by
  have hb := exec_bounds h
  refine ⟨fun hs => ?_, hb.events, fun hs => ?_, hb.link⟩
  · obtain ⟨hroom, hmap⟩ := captureLogOk_iff.1 hs
    exact captureLogOk_iff.2 ⟨hb.room hroom, exec_mapWf h hmap⟩
  · exact setupOk_iff.2 (exec_setupOk h (setupOk_iff.1 hs))

/-! ### The edges of SCK (R150, R151, R157) -/

/-- The frame of a command with all of its operand bytes decodes (Table 11.2). -/
theorem decodeFrame_ne_none {code : Byte} {operands : List Byte} {n : Nat} (hn : operandCount code = some n)
    (hl : operands.length = n) : decodeFrame (code :: operands) ≠ none := by
  unfold operandCount at hn
  split at hn <;> cases hn
  case h_3 hcode | h_4 hcode | h_9 hcode =>
    obtain ⟨a, rfl⟩ := List.length_eq_one_iff.1 hl
    simp [decodeFrame, operandCount, hcode]
  case h_5 hcode =>
    match operands, hl with
    | [item, b0, b1, b2, b3, b4, b5], _ => simp [decodeFrame, operandCount, hcode]
  all_goals
    rename_i hcode
    obtain rfl := List.length_eq_zero_iff.1 hl
    simp [decodeFrame, operandCount, hcode]

/-- A byte that names no command is a whole frame (R150). -/
theorem decodeFrame_unknown {code : Byte} (h : operandCount code = none) :
    decodeFrame [code] = some (.unknownCommand code) := by
  simp [decodeFrame, h]

/-- A byte that does not complete a frame belongs to a command with more bytes to come. -/
theorem moreToCome_append {bytes : List Byte} {b : Byte} (h : moreToCome bytes = true)
    (hd : decodeFrame (bytes ++ [b]) = none) : moreToCome (bytes ++ [b]) = true := by
  cases bytes with
  | nil =>
    cases hb : operandCount b with
    | none => simp [decodeFrame_unknown hb] at hd
    | some n =>
      have hne : ([] : List Byte).length ≠ n := fun he => decodeFrame_ne_none hb he hd
      simp only [List.nil_append, moreToCome, hb, Option.any_some, decide_eq_true_eq]
      exact Nat.pos_of_ne_zero hne.symm
  | cons code operands =>
    cases hc : operandCount code with
    | none => simp [moreToCome, hc] at h
    | some n =>
      have hne : (operands ++ [b]).length ≠ n := fun he => decodeFrame_ne_none hc he hd
      simp only [moreToCome, hc, Option.any_some, decide_eq_true_eq] at h
      simp only [List.cons_append, moreToCome, hc, Option.any_some, decide_eq_true_eq]
      simp only [List.length_append, List.length_singleton] at hne ⊢
      omega

/-- All that an edge of SCK can do: carry out a command, or change the frame in progress, as far as the link's invariant
allows, and the bit on SDO. -/
theorem execEdge_exec_or_frame (e : SckEdge) (s : State) :
    (∃ i, execEdge e s = exec i s) ∨
      ∃ frame sdo, execEdge e s = .next { s with link.frame := frame, link.sdo := sdo } ∧
        (s.linkOk = true → State.linkOk { s with link.frame := frame } = true) := by
  cases e with
  | fall => exact .inr ⟨s.link.frame, _, rfl, id⟩
  | rise sdi =>
    unfold execEdge State.sckRise
    dsimp only
    split
    · exact .inr ⟨s.link.frame, s.link.sdo, rfl, id⟩
    · rename_i bytes bits hf
      split
      · unfold State.receiveBit
        split
        · rename_i hlt
          refine .inr ⟨_, s.link.sdo, rfl, fun h => ?_⟩
          obtain ⟨hc, hr, -, hmore⟩ := (linkOk_receiving hf).1 h
          exact (linkOk_receiving rfl).2 ⟨hc, hr, by simpa using Nat.succ_lt_succ hlt, hmore⟩
        · dsimp only
          split
          · exact .inl ⟨_, rfl⟩
          · rename_i hd
            refine .inr ⟨_, s.link.sdo, rfl, fun h => ?_⟩
            obtain ⟨hc, hr, -, hmore⟩ := (linkOk_receiving hf).1 h
            exact (linkOk_receiving rfl).2 ⟨hc, hr, by simp, moreToCome_append hmore hd⟩
      · exact .inr ⟨s.link.frame, s.link.sdo, rfl, id⟩
    · rename_i response popping sent hf
      split
      · unfold State.shiftOut
        split
        · exact .inl ⟨_, rfl⟩
        · rename_i hlast
          refine .inr ⟨_, s.link.sdo, rfl, fun h => ?_⟩
          obtain ⟨hc, hr, hne, -, hpop⟩ := (linkOk_answered hf).1 h
          refine (linkOk_answered rfl).2 ⟨hc, hr, hne, Nat.min_le_right _ _, fun hp => ?_⟩
          have hlast' : sent + 1 ≠ 8 * response.length := by simpa [hp] using hlast
          have := hpop hp
          omega
      · exact .inr ⟨s.link.frame, s.link.sdo, rfl, id⟩

/-- Settles O15: a step carries out a command, which keeps the bounds of each block, or moves the frame on the link on. -/
theorem stepKeepsBoundedBlocks : Obligations.StepKeepsBoundedBlocks := by
  intro s t h
  unfold step at h
  split at h
  · split at h
    · obtain rfl := Host.Outcome.next.inj h
      exact ⟨id, id, id, id⟩
    · rename_i e rest _
      rcases execEdge_exec_or_frame e { s with wire := rest } with ⟨i, he⟩ | ⟨frame, sdo, he, hlink⟩
      · have hk := exec_blocksKept (he ▸ h)
        exact hk
      · obtain rfl := Host.Outcome.next.inj (he.symm.trans h)
        exact ⟨id, id, id, hlink⟩
  · have hk := exec_blocksKept h
    exact hk

end Sys2Proof.BlockBounds
end

/-! ## The log writer: the start, the two answers and the end of an attempt (R65, R69 to R72) -/

section
namespace Sys2Proof.UndoLog

open Sys2Proof Sys2Proof.Machine Sys2Proof.AccessPath

/-! ### What each operation of the log writer does -/

section writer

variable {s : State} {e : StagingEntry} {j : WriterJob}

/-- An attempt hands the header line and the image line of the record's slot (R65, R70). -/
theorem beginAttempt_eq_attempt (s : State) (e : StagingEntry) (which : Attempt) :
    s.beginAttempt e which = Effect.attempt s e which := by
  unfold State.beginAttempt State.handRecord State.handOver
  dsimp only
  rw [List.append_assoc]
  rfl

/-- The writer starts on a READY front in ACTIVE, where no rollback is in flight (R69). -/
theorem writerFront_of_ready {rest : List StagingEntry} (hr : s.rstN = true) (hs : s.log.staging = e :: rest)
    (hw : s.log.writer = none) (hm : s.mode.state = .active) (hp : s.engine.phase = .idle)
    (hc : e.content ≠ .pending) : s.writerFront = some e := by
  have hready : e.ready = true := bne_iff_ne.2 hc
  unfold State.writerFront
  rw [if_pos (by simp [hr, hw, hm, rollingBack_eq_false_iff.2 hp]), hs, List.head?_cons, Option.filter_some,
    if_pos hready]

/-- The first of an attempt's two answers is only counted (R70). -/
theorem countLogAnswer_first (hw : s.log.writer = some j) (hj : j.answers = 0) (resp : MemStatus) :
    s.countLogAnswer resp =
      { s with log.writer := some { j with answers := 1, anyErr := j.anyErr || resp == .err } } := by
  simp [State.countLogAnswer, hw, hj]

/-- The record write `j` with both of the attempt's answers, the second of them `resp`. -/
def bothAnswered (j : WriterJob) (resp : MemStatus) : WriterJob :=
  { j with answers := 2, anyErr := j.anyErr || resp == .err }

theorem bothAnswered_anyErr {resp : MemStatus} :
    (bothAnswered j resp).anyErr = true ↔ j.anyErr = true ∨ resp = .err := by
  simp [bothAnswered]

/-- The second of an attempt's two answers ends it (R70). -/
theorem countLogAnswer_second (hw : s.log.writer = some j) (hj : j.answers = 1) (resp : MemStatus) :
    s.countLogAnswer resp = s.endAttempt (bothAnswered j resp) := by
  simp [State.countLogAnswer, bothAnswered, hw, hj]

/-- The end of an orphaned write is ignored (R72). -/
theorem endAttempt_orphaned (ho : j.orphaned = true) : s.endAttempt j = { s with log.writer := none } := if_pos ho

/-- Two OK answers store the record, which leaves the queue (R70). -/
theorem endAttempt_stored (ho : j.orphaned = false) (he : s.stagedRecord j.seq = some e) (hj : j.anyErr = false) :
    s.endAttempt j = { s with log.writer := none, log.staging := s.log.staging.filter (·.seq != j.seq) } := by
  simp [State.endAttempt, ho, he, hj]

/-- A failed first attempt is retried whole, with LOG_RETRY (R71). -/
theorem endAttempt_retried (ho : j.orphaned = false) (he : s.stagedRecord j.seq = some e) (hj : j.anyErr = true)
    (hf : j.attempt = .first) :
    s.endAttempt j = (s.post (.logRetry (s.win.slotAddr e.seq)) e.serial).beginAttempt e .second := by
  simp [State.endAttempt, ho, he, hj, hf]

/-- A failed second attempt enters FAILED (R71). -/
theorem endAttempt_failed (ho : j.orphaned = false) (he : s.stagedRecord j.seq = some e) (hj : j.anyErr = true)
    (hf : j.attempt = .second) :
    s.endAttempt j = ({ s with log.writer := none } : State).enterFailed .logWrite := by
  simp [State.endAttempt, ho, he, hj, hf]

end writer

/-! ### The answers to a record write -/

/-- The downstream slot `k` holds one of the two writes of the record write `j` in progress. -/
structure AttemptAnswered (s : State) (k : DTag) (j : WriterJob) : Prop where
  rstN : s.rstN = true
  dslot : ∃ o line, s.dslot k = .outstanding o line false ∧ (o = .logHeader ∨ o = .logImage)
  writer : s.log.writer = some j

namespace AttemptAnswered

variable {s u : State} {k : DTag} {j : WriterJob}

/-- The writer is left by the freeing of the slot. -/
theorem freed (h : AttemptAnswered s k j) : (Effect.slotFreed s k).log.writer = some j := h.writer

/-- The event is that of the answer's count, with the downstream slot FREE. -/
theorem exec_eq (h : AttemptAnswered s k j) (resp : MemStatus) :
    exec (.logWriteResponse k resp) s = .next ((Effect.slotFreed s k).countLogAnswer resp).settle := by
  obtain ⟨o, line, hk, ho⟩ := h.dslot
  show execLogWriteResponse k resp s = _
  rw [execLogWriteResponse, hk]
  rcases ho with rfl | rfl <;> rfl

theorem gives (h : AttemptAnswered s k j) {resp : MemStatus} (hu : (Effect.slotFreed s k).countLogAnswer resp = u)
    (hr : u.rstN = s.rstN) : Effect.Gives (exec (.logWriteResponse k resp) s) u :=
  gives_of_settle (hu ▸ h.exec_eq resp) (hr.trans h.rstN)

/-- The second answer: the event is that of the attempt's end. -/
theorem gives_ended (h : AttemptAnswered s k j) (hj : j.answers = 1) {resp : MemStatus}
    (hu : (Effect.slotFreed s k).endAttempt (bothAnswered j resp) = u) (hr : u.rstN = s.rstN) :
    Effect.Gives (exec (.logWriteResponse k resp) s) u :=
  h.gives ((countLogAnswer_second h.freed hj resp).trans hu) hr

end AttemptAnswered

/-- Settles O51: the front record's writes are handed over, the first answer is counted, the second stores the record. -/
theorem logWriterStoresTheFrontRecord : Obligations.LogWriterStoresTheFrontRecord := by
  intro e rest s hr hs
  refine ⟨fun hw hm hp hc => ?_, fun k o line resp j hk ho hw => ?_⟩
  · have hfront := writerFront_of_ready hr hs hw hm hp hc
    refine gives_of_settle ?_ hr
    show execLogWriterStart s = _
    rw [execLogWriterStart, hfront, ← beginAttempt_eq_attempt]
  · have h : AttemptAnswered s k j := ⟨hr, ⟨o, line, hk, ho⟩, hw⟩
    refine ⟨fun hj => h.gives (countLogAnswer_first h.freed hj resp) rfl, fun hj horph hseq hok hresp => ?_⟩
    have hstaged : (Effect.slotFreed s k).stagedRecord (bothAnswered j resp).seq = some e := by
      show s.log.staging.find? (·.seq == j.seq) = some e
      rw [hs, hseq]
      exact List.find?_cons_of_pos (beq_self_eq_true _)
    have hnoErr : (bothAnswered j resp).anyErr = false := by simp [bothAnswered, hok, hresp]
    rw [← hs, ← hseq]
    exact h.gives_ended hj (endAttempt_stored horph hstaged hnoErr) rfl

/-- Settles O52: an attempt that ends with an ERR begins again as the second, and an orphaned write only ends. -/
theorem failedAttemptIsRetriedAndOrphanIgnored : Obligations.FailedAttemptIsRetriedAndOrphanIgnored := by
  intro k o line resp j s hr hk ho hw hj v
  have h : AttemptAnswered s k j := ⟨hr, ⟨o, line, hk, ho⟩, hw⟩
  refine ⟨fun e horph he hfirst herr => ?_, fun horph => ?_⟩
  · have hend := endAttempt_retried (s := v) (j := bothAnswered j resp) horph he (bothAnswered_anyErr.2 herr) hfirst
    exact h.gives_ended hj (hend.trans (beginAttempt_eq_attempt _ _ _)) rfl
  · exact h.gives_ended hj (endAttempt_orphaned (j := bothAnswered j resp) horph) rfl

end Sys2Proof.UndoLog
end

/-! ## Entry to FAILED and what its event leaves (R17, R71, R95, R144, R145)

The event of a failure makes no frame and takes none: where every frame is BROKEN and neither a barrier nor a rollback is in
flight (`FramesAtRest`), only turns, acceptances and the arbiter's grants are due, and these leave the frames. -/

section
namespace Sys2Proof.UndoLog

open Sys2Proof Sys2Proof.Machine Sys2Proof.AccessPath

/-! ### Parts that leave the Rollback Engine and begin no barrier -/

/-- The Rollback Engine stays, and no barrier begins. -/
structure EngineLeft (s t : State) : Prop where
  engine : t.engine = s.engine
  barrier : s.frames.barrier = none → t.frames.barrier = none

/-- The stack stays too. -/
structure FramesLeft (s t : State) : Prop extends EngineLeft s t where
  stack : t.frames.stack = s.frames.stack

namespace EngineLeft

variable {s t u : State}

theorem refl (s : State) : EngineLeft s s := ⟨rfl, id⟩

theorem trans (h : EngineLeft s t) (k : EngineLeft t u) : EngineLeft s u :=
  ⟨k.engine.trans h.engine, fun hs => k.barrier (h.barrier hs)⟩

end EngineLeft

namespace FramesLeft

variable {s t u : State}

theorem refl (s : State) : FramesLeft s s := ⟨.refl s, rfl⟩

theorem trans (h : FramesLeft s t) (k : FramesLeft t u) : FramesLeft s u :=
  ⟨h.toEngineLeft.trans k.toEngineLeft, k.stack.trans h.stack⟩

/-- The Frame Stack and the Rollback Engine are left, and other blocks change as they will. -/
theorem of_eq (hf : t.frames = s.frames) (he : t.engine = s.engine) : FramesLeft s t :=
  ⟨⟨he, fun h => hf ▸ h⟩, by rw [hf]⟩

theorem foldl {α : Type} {f : State → α → State} (hf : ∀ s a, FramesLeft s (f s a)) :
    ∀ (l : List α) (s : State), FramesLeft s (l.foldl f s)
  | [], s => refl s
  | a :: l, s => (hf s a).trans (foldl hf l (f s a))

end FramesLeft

section left

variable (s : State)

theorem issue_framesLeft (e : Txn) : FramesLeft s (s.issue e) :=
  ⟨⟨rfl, fun h => by rw [State.issue_frames, h]; rfl⟩, rfl⟩

theorem judge_framesLeft (e : Txn) : FramesLeft s (s.judge e) := by
  unfold State.judge
  split
  · exact .of_eq rfl rfl
  · exact issue_framesLeft s e

theorem proceed_framesLeft (e : Txn) : FramesLeft s (s.proceed e) := by
  unfold State.proceed
  split
  · exact judge_framesLeft s e
  · exact issue_framesLeft s e

theorem wakeOne_framesLeft (t : Tag) : FramesLeft s (s.wakeOne t) := by
  unfold State.wakeOne
  split
  · exact .refl s
  · split
    · exact proceed_framesLeft s _
    · exact .refl s

theorem wake_framesLeft : FramesLeft s s.wake := .foldl wakeOne_framesLeft _ s

theorem enroll_framesLeft (e : Txn) : FramesLeft s (s.enroll e) := by
  have hadded : FramesLeft s { s with up.txns := s.up.txns ++ [e], up.nextAge := s.up.nextAge + 1 } := .of_eq rfl rfl
  unfold State.enroll
  dsimp only
  repeat' split
  · exact .of_eq rfl rfl
  · exact .of_eq rfl rfl
  · exact hadded.trans (proceed_framesLeft _ _)
  · exact hadded

theorem accept_framesLeft (r : Request) : FramesLeft s (s.accept r) := by
  unfold State.accept
  repeat' split
  · exact .of_eq rfl rfl
  · exact .of_eq rfl rfl
  · exact enroll_framesLeft s _
  · exact .of_eq rfl rfl
  · exact enroll_framesLeft s _
  · exact enroll_framesLeft s _

theorem acceptPresented_framesLeft : FramesLeft s s.acceptPresented := by
  unfold State.acceptPresented
  split
  · exact .refl s
  · split
    · exact .trans (t := { s with up.presented := none }) (.of_eq rfl rfl) (accept_framesLeft _ _)
    · exact .refl s

theorem startWriter_framesLeft : FramesLeft s s.startWriter := by
  unfold State.startWriter
  split
  · exact .of_eq rfl rfl
  · exact .refl s

end left

/-! ### An event that leaves the frames -/

/-- Every frame is BROKEN, and neither a barrier nor a rollback is in flight. -/
structure FramesAtRest (s : State) : Prop where
  broken : ∀ f ∈ s.frames.stack, f.status = .broken
  barrier : s.frames.barrier = none
  idle : s.engine.phase = .idle

namespace FramesAtRest

variable {s t : State}

theorem of_left (h : FramesAtRest s) (k : FramesLeft s t) : FramesAtRest t where
  broken := k.stack ▸ h.broken
  barrier := k.barrier h.barrier
  idle := k.engine ▸ h.idle

/-- Under a BROKEN top no write asks for log space (R55). -/
theorem nothingToGrant (h : FramesAtRest s) : s.nothingToGrant = true := by
  have htop : s.topIntact = false := by
    unfold State.topIntact State.top
    split
    · rename_i f hf
      rw [h.broken f (List.mem_of_getLast? hf)]
      rfl
    · rfl
  simp [State.nothingToGrant, State.canAsk, htop]

theorem quiesceIfOver_eq (h : FramesAtRest s) : s.quiesceIfOver = s :=
  quiesceIfOver_of_not (by simp [State.quiesceOver, h.idle])

theorem unwind_eq (h : FramesAtRest s) : s.unwind = s := unwind_of_not (by simp [State.betweenSteps, h.idle])

/-- The event leaves the frames. -/
theorem settle (h : FramesAtRest s) : s.settle.frames.stack = s.frames.stack := by
  cases hr : s.rstN with
  | false => rw [settle_of_reset hr]
  | true =>
    have hearly := (wake_framesLeft s).trans (acceptPresented_framesLeft s.wake)
    have h1 := h.of_left hearly
    have hwriter := startWriter_framesLeft s.wake.acceptPresented
    have h2 := h1.of_left hwriter
    have hbar : s.wake.acceptPresented.frames.barrier ≠ some [] := by simp [h1.barrier]
    simp only [State.settle, hr, if_true]
    rw [grantCaptures_of_nothing h1.nothingToGrant, barrierIfDone_of_ne hbar, grantCaptures_of_nothing h1.nothingToGrant,
      h2.quiesceIfOver_eq, h2.unwind_eq, grantCaptures_of_nothing h2.nothingToGrant, (arbitrate_keeps _).frames]
    exact ((hearly.trans hwriter).trans (startWriter_framesLeft _)).stack

end FramesAtRest

/-! ### Entry to FAILED (R145) -/

/-- Events posted later leave the front of the queue. -/
theorem foldl_post_front {l : LinkUnit} {x : EventRecord} (h : ∃ more, l.events = x :: more) (es : List EventRecord) :
    ∃ more, (es.foldl LinkUnit.post l).events = x :: more := by
  induction es generalizing l with
  | nil => exact h
  | cons e es ih =>
    obtain ⟨more, hl⟩ := h
    refine ih ?_
    unfold LinkUnit.post
    split
    · exact ⟨more ++ [e], by simp [hl]⟩
    · exact ⟨more, hl⟩

/-- What the entries denied at the entry to FAILED leave (R37). -/
structure DenialLeaves (s t : State) : Prop where
  stack : t.frames.stack = s.frames.stack
  link : t.link = s.link
  flt : t.flt = s.flt

theorem foldl_deny_leaves (l : List Txn) (s : State) : DenialLeaves s (l.foldl State.deny s) := by
  induction l generalizing s with
  | nil => exact ⟨rfl, rfl, rfl⟩
  | cons e l ih =>
    obtain ⟨hstack, hlink, hflt⟩ := ih (s.deny e)
    exact ⟨hstack, hlink, hflt⟩

theorem cancelReservation_left (s : State) : FramesLeft s s.cancelReservation := by
  unfold State.cancelReservation
  split
  · exact .of_eq rfl rfl
  · exact .refl s

/-- The record of DEVICE_FAILED, posted at a tick count with the stack as it stands (R145). -/
def failureRecord (ticks : BitVec 32) (stack : List Frame) (cause : FailCause) : EventRecord :=
  { body := .deviceFailed cause, stamp := ticks, depth := stack.length,
    serial := (stack.getLast?.map Frame.serial).getD 0#16 }

/-- Frames that become BROKEN keep their number and their serials (R17). -/
theorem failureRecord_breakUp (ticks : BitVec 32) (stack : List Frame) (cause : FailCause) :
    failureRecord ticks (stack.map Frame.breakUp) cause = failureRecord ticks stack cause := by
  simp only [failureRecord, List.length_map, List.getLast?_map, Option.map_map]
  rfl

/-- Entry to FAILED, in three items of R145: the operating state, the frames BROKEN and at rest, and DEVICE_FAILED with the
cause as the first event posted. -/
structure FailedWith (s : State) (cause : FailCause) (t : State) : Prop where
  failed : t.mode.state = .failed
  atRest : FramesAtRest t
  posted : ∃ es : List EventRecord,
    t.link = es.foldl LinkUnit.post (s.link.post (failureRecord s.flt.ticks s.frames.stack cause))

theorem cancelReservation_keeps (s : State) : SettleKeeps s s.cancelReservation := by
  unfold State.cancelReservation
  split
  · exact .trans (t := { s with ctl.reserved := false }) (by apply SettleKeeps.silent <;> rfl) (post_keeps _ _ _)
  · exact .refl s

theorem enterFailed_failedWith (s : State) (cause : FailCause) : FailedWith s cause (s.enterFailed cause) := by
  obtain ⟨hstack, hlink, hflt⟩ := foldl_deny_leaves s.unissuedGuarded s
  unfold State.enterFailed
  dsimp only
  refine ⟨?_, FramesAtRest.of_left ⟨?_, rfl, rfl⟩ (cancelReservation_left _), ?_⟩
  · rw [(cancelReservation_keeps _).mode]
    rfl
  · intro f hf
    obtain ⟨g, -, rfl⟩ := List.mem_map.1 hf
    rfl
  · obtain ⟨es, hes⟩ := (cancelReservation_keeps _).link
    refine ⟨es, hes.trans (congrArg (es.foldl LinkUnit.post) ?_)⟩
    rw [← failureRecord_breakUp, ← hstack, ← hflt, ← hlink]
    rfl

/-! ### The failure is reported -/

/-- The outcome is FAILED with every frame BROKEN and, at the front of the event queue, DEVICE_FAILED with the cause, as the
state `s` stamps it. -/
def Reports (s : State) (o : Host.Outcome State Fault Refusal) (cause : FailCause) : Prop :=
  ∃ t more, o = .next t ∧ t.mode.state = .failed ∧ (∀ f ∈ t.frames.stack, f.status = .broken) ∧
    t.link.events = failureRecord s.flt.ticks s.frames.stack cause :: more

/-- Into an empty event queue, the event of an entry to FAILED reports its cause. -/
theorem reports_of_enterFailed {s : State} {o : Host.Outcome State Fault Refusal} {cause : FailCause}
    (he : s.link.events = []) (ho : o = .next (s.enterFailed cause).settle) : Reports s o cause := by
  obtain ⟨hfailed, hrest, es, hes⟩ := enterFailed_failedWith s cause
  have k := settle_keeps (s.enterFailed cause)
  obtain ⟨fs, hfs⟩ := k.link
  have hpost (x : EventRecord) : (s.link.post x).events = [x] := by simp [LinkUnit.post, he, Config.eventQueue]
  obtain ⟨more, hmore⟩ := foldl_post_front (foldl_post_front ⟨[], hpost _⟩ es) fs
  refine ⟨_, more, ho, k.mode ▸ hfailed, hrest.settle ▸ hrest.broken, ?_⟩
  rw [hfs, hes, hmore]

/-! ### The reads of an unwind step -/

/-- The downstream slot `k` holds one of the two reads of the step in hand, the header's or the image's, and the other has
been answered with `other` (R95). -/
structure LastReadAnswered (s : State) (k : DTag) (isHeader : Bool) (h : Hand) (other : LineResponse) : Prop where
  dslot : ∃ line, s.dslot k = .outstanding (if isHeader then .unwindHeader else .unwindImage) line false
  hand : s.engine.hand = some h
  step : h.step = if isHeader then .reading none (some other) else .reading (some other) none

/-- The second of the two answers lets the record be judged (R95). -/
theorem LastReadAnswered.exec_eq {s : State} {k : DTag} {isHeader : Bool} {h : Hand} {other : LineResponse}
    (ha : LastReadAnswered s k isHeader h other) (resp : LineResponse) :
    exec (.unwindReadResponse k resp) s =
      .next (State.judgeReads (Effect.slotFreed s k) h (if isHeader then resp else other)
        (if isHeader then other else resp)).settle := by
  obtain ⟨line, hk⟩ := ha.dslot
  have hread : (Effect.slotFreed s k).recordRead isHeader resp =
      (Effect.slotFreed s k).judgeReads h (if isHeader then resp else other) (if isHeader then other else resp) := by
    have hh : (Effect.slotFreed s k).engine.hand = some h := ha.hand
    unfold State.recordRead
    rw [hh]
    dsimp only
    rw [ha.step]
    cases isHeader <;> rfl
  show execUnwindReadResponse k resp s = _
  rw [execUnwindReadResponse, hk, ← hread]
  cases isHeader <;> rfl

/-- An ERR on either read enters FAILED (R95). -/
theorem judgeReads_of_err {s : State} {h : Hand} {header image : LineResponse} (he : header = .err ∨ image = .err) :
    s.judgeReads h header image = s.enterFailed .unwindRead := by
  rcases he with rfl | rfl
  · rfl
  · cases header <;> rfl

/-- A record that fails verification enters FAILED with what it fails by (R95). -/
theorem judgeReads_of_fails {s : State} {h : Hand} {header image : LineData} {cause : FailCause}
    (hv : verifyRecord h.seq header image = .fails cause) :
    s.judgeReads h (.ok header) (.ok image) = s.enterFailed cause := by
  rw [State.judgeReads]
  simp only [hv]

/-- The failures that the second of a step's two answers causes, each reported with its cause (R95, R144). -/
theorem LastReadAnswered.reports {s : State} {k : DTag} {isHeader : Bool} {h : Hand} {other : LineResponse}
    (ha : LastReadAnswered s k isHeader h other) (he : s.link.events = []) :
    (∀ resp, resp = .err ∨ other = .err → Reports s (exec (.unwindReadResponse k resp) s) .unwindRead) ∧
      ∀ d x cause, other = .ok x →
        verifyRecord h.seq (if isHeader then d else x) (if isHeader then x else d) = .fails cause →
          Reports s (exec (.unwindReadResponse k (.ok d)) s) cause := by
  refine ⟨fun resp herr => ?_, ?_⟩
  · refine reports_of_enterFailed (s := Effect.slotFreed s k) he ?_
    rw [ha.exec_eq, judgeReads_of_err]
    cases isHeader with
    | true => exact herr
    | false => exact herr.symm
  · rintro d x cause rfl hv
    refine reports_of_enterFailed (s := Effect.slotFreed s k) he ?_
    rw [ha.exec_eq, ← judgeReads_of_fails hv]
    cases isHeader <;> rfl

/-- Settles O54: each of the three causes enters FAILED, whose event reports it. -/
theorem everyFailureCauseIsReported : Obligations.EveryFailureCauseIsReported := by
  intro k o line s hr hk hev reports
  refine ⟨fun j resp ho hw hj horph hsecond hstaged herr => ?_, ?_⟩
  · have ha : AttemptAnswered s k j := ⟨hr, ⟨o, line, hk, ho⟩, hw⟩
    obtain ⟨e, he⟩ := Option.isSome_iff_exists.1 hstaged
    have hend := endAttempt_failed (s := Effect.slotFreed s k) (j := bothAnswered j resp) horph he
      (bothAnswered_anyErr.2 herr) hsecond
    refine reports_of_enterFailed (s := { Effect.slotFreed s k with log.writer := none }) hev ?_
    rw [ha.exec_eq, countLogAnswer_second ha.freed hj, hend]
  · rintro h hd im (⟨rfl, hstep⟩ | ⟨rfl, hstep⟩) hh
    · have ha : LastReadAnswered s k true h im := ⟨⟨line, hk⟩, hh, hstep⟩
      exact ha.reports hev
    · have ha : LastReadAnswered s k false h hd := ⟨⟨line, hk⟩, hh, hstep⟩
      exact ha.reports hev

end Sys2Proof.UndoLog
end

/-! ## UNWIND between two steps: what is due there, and what its event comes to (R91, R93, R97, R98) -/

section
namespace Sys2Proof.UndoLog

open Sys2Proof Sys2Proof.Machine Sys2Proof.AccessPath Sys2Proof.CapturePath

/-! ### The grants of an event, where the wait list may name writes that are not in the table -/

section grants

variable {s : State}

/-- The oldest waiting write is not in the table, so the space there is for it is not taken (log 28). -/
def OldestAbsent (s : State) : Prop :=
  s.logCount < s.win.capacity ∧ ∃ t rest, s.cap.waitList = t :: rest ∧ s.findTxn t = none

/-- The grants leave the state: none is to be made, or the oldest waiting write is not in the table. -/
def GrantsDone (s : State) : Prop := s.nothingToGrant = true ∨ OldestAbsent s

theorem OldestAbsent.grantOldest_eq (h : OldestAbsent s) : s.grantOldest = s := by
  obtain ⟨-, t, rest, hw, hf⟩ := h
  unfold State.grantOldest
  rw [hw]
  simp only [hf]

theorem OldestAbsent.grantLoop_eq (h : OldestAbsent s) (n : Nat) : State.grantLoop n false s = s := by
  induction n with
  | zero => rfl
  | succ n ih => rw [grantLoop_succ, if_pos h.1, h.grantOldest_eq, ih, ite_self]

theorem GrantsDone.grantLoop_eq (h : GrantsDone s) (n : Nat) : State.grantLoop n false s = s := by
  rcases h with h | h
  · exact grantLoop_of_nothing h n
  · exact h.grantLoop_eq n

theorem GrantsDone.grantCaptures_eq (h : GrantsDone s) : s.grantCaptures = s := h.grantLoop_eq _

/-- Whether the grants are done is no matter of the log writer. -/
theorem GrantsDone.startWriter (h : GrantsDone s) : GrantsDone s.startWriter := by
  unfold State.startWriter
  split
  · exact h
  · exact h

/-- A grant takes the oldest write off the wait list, where it is in the table. -/
theorem grantOldest_waitList_of_found {t : Tag} {rest : List Tag} {e : Txn} (hw : s.cap.waitList = t :: rest)
    (he : s.findTxn t = some e) (hs : s.cap.slots.any Option.isNone = true) : s.grantOldest.cap.waitList = rest := by
  obtain ⟨i, hi⟩ := Option.isSome_iff_exists.1 (List.findIdx?_isSome.trans hs)
  unfold State.grantOldest
  rw [hw]
  simp only [he, hi]

theorem grantOldest_intactFrames (s : State) : intactFrames s.grantOldest = intactFrames s := by
  unfold State.grantOldest
  split
  · rfl
  · split <;> rfl

/-- A refusal under WAIT, with the hold timer running, leaves nothing to grant (R77). -/
theorem nothingToGrant_of_refused (hfull : s.win.capacity ≤ s.logCount) (hwait : s.mode.logPolicy = .wait) :
    s.startHold.nothingToGrant = true := by
  have hrun : s.startHold.log.hold.running = true := by
    rw [State.startHold_log]
    cases hr : s.log.hold.running <;> simp [hr]
  have hfull' : s.startHold.win.capacity ≤ s.startHold.logCount := hfull
  have hwait' : s.startHold.mode.logPolicy = .wait := hwait
  unfold State.nothingToGrant
  simp only [hfull', hwait', hrun, decide_true, beq_self_eq_true, Bool.and_self, Bool.or_true]

/-- With a round for each waiting write and each INTACT frame, and one more, the grants are done. -/
theorem grantLoop_done (n : Nat) (hn : s.cap.waitList.length + intactFrames s < n) :
    GrantsDone (State.grantLoop n false s) := by
  induction n generalizing s with
  | zero => omega
  | succ n ih =>
    by_cases hnothing : s.nothingToGrant = true
    · exact .inl (by rwa [grantLoop_of_nothing hnothing])
    by_cases habsent : OldestAbsent s
    · exact .inr (by rwa [habsent.grantLoop_eq])
    rw [grantLoop_succ]
    split
    · rename_i hnone
      exact absurd (by simp [State.nothingToGrant, hnone]) hnothing
    rename_i hask
    simp only [Bool.or_eq_true, Bool.not_eq_true', not_or, Bool.not_eq_false, List.isEmpty_iff] at hask
    obtain ⟨hne, hask⟩ := hask
    obtain ⟨-, -, htop, hslots, -⟩ := canAsk_iff.1 hask
    split
    · rename_i hspace
      obtain ⟨t, rest, hw⟩ := List.exists_cons_of_ne_nil hne
      obtain ⟨e, he⟩ := Option.ne_none_iff_exists'.1 fun hf => habsent ⟨hspace, t, rest, hw, hf⟩
      refine ih ?_
      rw [grantOldest_waitList_of_found hw he hslots, grantOldest_intactFrames]
      rw [hw, List.length_cons] at hn
      omega
    rename_i hfull
    split
    · obtain ⟨hless, hsub⟩ := breakLowest_breaks s .logFull (intactFrames_pos htop)
      have := hsub.length_le
      exact ih (by omega)
    · rename_i hpolicy
      have hwait : s.mode.logPolicy = .wait := by
        cases h : s.mode.logPolicy with
        | wait => rfl
        | _ => exact absurd h hpolicy
      exact .inl (nothingToGrant_of_refused (Nat.not_lt.1 hfull) hwait)

theorem grantCaptures_done (s : State) : GrantsDone s.grantCaptures := by
  refine grantLoop_done _ ?_
  have : intactFrames s ≤ s.depth := List.countP_le_length
  unfold State.grantRounds
  omega

end grants

/-- A log writer that has been started has no front left to start on (R69). -/
theorem startWriter_startWriter (s : State) : s.startWriter.startWriter = s.startWriter := by
  cases hf : s.writerFront with
  | none => rw [startWriter_of_none hf, startWriter_of_none hf]
  | some e =>
    have hs : s.startWriter = s.beginAttempt e .first := by simp [State.startWriter, hf]
    rw [hs]
    exact startWriter_of_none (by simp [State.writerFront])

/-! ### The grants leave the Rollback Engine and begin no barrier -/

section engine

variable (s : State)

theorem reclaim_framesLeft (q : Seq) : FramesLeft s (s.reclaim q) := by
  unfold State.reclaim
  dsimp only
  split
  · exact .of_eq rfl rfl
  · exact .of_eq rfl rfl

theorem post_framesLeft (b : EventBody) (q : Serial) : FramesLeft s (s.post b q) := .of_eq rfl rfl

theorem rejudgeOne_framesLeft (t : Tag) : FramesLeft s (s.rejudgeOne t) := by
  unfold State.rejudgeOne
  split
  · exact .refl s
  · split
    · exact .refl s
    · exact (issue_framesLeft s _).trans (.of_eq rfl rfl)

theorem rejudge_framesLeft : FramesLeft s s.rejudge := by
  have h := FramesLeft.foldl rejudgeOne_framesLeft s.cap.waitList s
  unfold State.rejudge
  dsimp only
  split
  · exact h.trans (.of_eq rfl rfl)
  · exact h

theorem breakLowest_engineLeft (c : BreakCause) : EngineLeft s (s.breakLowest c) := by
  unfold State.breakLowest
  dsimp only
  split
  · exact .refl s
  · have hstack (stack : List Frame) : EngineLeft s { s with frames.stack := stack } := ⟨rfl, id⟩
    have hbroken (stack : List Frame) (q : Seq) (b : EventBody) (x : Serial) :
        EngineLeft s ((({ s with frames.stack := stack } : State).reclaim q).post b x) :=
      (hstack stack).trans ((reclaim_framesLeft _ q).trans (post_framesLeft _ b x)).toEngineLeft
    split
    · exact (hbroken _ _ _ _).trans (rejudge_framesLeft _).toEngineLeft
    · exact hbroken _ _ _ _

theorem grantOldest_framesLeft : FramesLeft s s.grantOldest := by
  unfold State.grantOldest
  split
  · exact .refl s
  · split
    · exact .of_eq rfl rfl
    · exact .refl s

theorem grantLoop_engineLeft (n : Nat) : EngineLeft s (State.grantLoop n false s) := by
  induction n generalizing s with
  | zero => exact .refl s
  | succ n ih =>
    rw [grantLoop_succ]
    repeat' split
    · exact .refl s
    · exact (grantOldest_framesLeft s).toEngineLeft.trans (ih _)
    · exact (breakLowest_engineLeft s _).trans (ih _)
    · exact ⟨rfl, id⟩

theorem grantCaptures_engineLeft : EngineLeft s s.grantCaptures := grantLoop_engineLeft s _

end engine

/-! ### The completion of a rollback: its moves, and the barrier that it does not begin -/

section completion

variable {s : State}

/-- The release of an entry makes moves: of distinct tags, each names one entry. -/
theorem releaseOne_moves_of_nodup (hn : (s.up.txns.map Txn.tag).Nodup) (t : Tag) : Moves s (s.releaseOne t) := by
  unfold State.releaseOne
  split
  · exact .refl s
  · rename_i e hf
    obtain ⟨he, het⟩ := findTxn_mem hf
    split
    · exact proceed_moves s e
    · rename_i hno
      refine Relation.ReflTransGen.single (TurnMove.await t fun o ho ht hturn => hno (hasTurn_iff.2 ?_))
      exact List.inj_on_of_nodup_map hn ho he (ht.trans het.symm) ▸ hturn

theorem foldl_releaseOne_moves_of_nodup (l : List Tag) (hn : (s.up.txns.map Txn.tag).Nodup) :
    Moves s (l.foldl State.releaseOne s) := by
  induction l generalizing s with
  | nil => exact .refl s
  | cons t l ih =>
    have h := releaseOne_moves_of_nodup hn t
    exact h.trans (ih (h.sameEntries.tags_eq.symm ▸ hn))

theorem release_moves_of_nodup (hn : (s.up.txns.map Txn.tag).Nodup) (c : HoldCause) : Moves s (s.release c) :=
  foldl_releaseOne_moves_of_nodup _ hn

theorem completeRollback_moves_of_nodup (hn : (s.up.txns.map Txn.tag).Nodup) : Moves s s.completeRollback := by
  unfold State.completeRollback
  dsimp only
  generalize hbefore : (s.popFrames.giveOwed _).takeReservation = t
  have hup : t.up = s.up := by
    rw [← hbefore, takeReservation_up, giveOwed_up, popFrames_up]
  have hrelease : Moves s (t.release .rollback) :=
    (Moves.of_up_eq hup).trans (release_moves_of_nodup (by rw [hup]; exact hn) .rollback)
  exact hrelease.trans (.of_up_eq (reloadIfFrames_up _))

theorem popFrames_barrier (s : State) : s.popFrames.frames.barrier = s.frames.barrier := by
  unfold State.popFrames State.reclaim
  dsimp only
  repeat' split
  all_goals rfl

theorem giveOwed_frames (s : State) (p : Bool) : (s.giveOwed p).frames = s.frames := by
  unfold State.giveOwed
  split <;> rfl

theorem push_barrier (s : State) (c : Serial × Bool) (o : FrameOrigin) :
    (s.push c o).frames.barrier = s.frames.barrier := by
  unfold State.push
  dsimp only
  split <;> rfl

theorem takeReservation_barrier (s : State) : s.takeReservation.frames.barrier = s.frames.barrier := by
  unfold State.takeReservation
  dsimp only
  repeat' split
  · rfl
  · rw [State.post_frames, push_barrier]
  · rfl

theorem releaseOne_framesLeft (s : State) (t : Tag) : FramesLeft s (s.releaseOne t) := by
  unfold State.releaseOne
  split
  · exact .refl s
  · split
    · exact proceed_framesLeft s _
    · exact .of_eq rfl rfl

theorem release_framesLeft (s : State) (c : HoldCause) : FramesLeft s (s.release c) :=
  .foldl releaseOne_framesLeft _ s

theorem reloadIfFrames_frames (s : State) : s.reloadIfFrames.frames = s.frames := by
  unfold State.reloadIfFrames
  split <;> rfl

theorem completeRollback_barrier (hb : s.frames.barrier = none) : s.completeRollback.frames.barrier = none := by
  unfold State.completeRollback
  dsimp only
  rw [reloadIfFrames_frames]
  refine (release_framesLeft _ _).barrier ?_
  rw [takeReservation_barrier, giveOwed_frames, popFrames_barrier, hb]

end completion

end Sys2Proof.UndoLog
end

/-! ## The steps of UNWIND (R91, R93 to R97)

An event that finds UNWIND between two steps is the event of the completion, at the stop point, and that of the next step
elsewhere (`stepEnded_of_settle`). QUIESCE_END and UNWIND_STEP both lead there. -/

section
namespace Sys2Proof.UndoLog

open Sys2Proof Sys2Proof.Machine Sys2Proof.AccessPath

section steps

variable {s : State}

/-! ### What is due before UNWIND goes on -/

theorem rollingBack_of_unwind (hp : s.engine.phase = .unwind) : s.rollingBack = true := by
  simp [State.rollingBack, hp]

/-- During UNWIND no capture is granted, no record write starts and QUIESCE has ended, so that turns, an acceptance and the end
of a barrier are all that can be due before it goes on. -/
theorem calmBeforeUnwind_iff_of_unwind (hp : s.engine.phase = .unwind) :
    s.calmBeforeUnwind = true ↔
      s.turnsSettled = true ∧ s.nothingToAccept = true ∧ s.frames.barrier ≠ some [] := by
  have hroll := rollingBack_of_unwind hp
  have hgrant : s.nothingToGrant = true := by simp [State.nothingToGrant, State.canAsk, hroll]
  have hwriter : s.writerFront = none := by simp [State.writerFront, hroll]
  have hover : s.quiesceOver = false := by simp [State.quiesceOver, hp]
  rw [calmBeforeUnwind_iff, upstreamCalm_iff]
  simp [hgrant, hwriter, hover, and_assoc]

/-- What is due before UNWIND goes on is read off the Upstream Port and the barrier. -/
theorem calmBeforeUnwind_congr {t : State} (hp : s.engine.phase = .unwind) (hp' : t.engine.phase = .unwind)
    (hu : t.up = s.up) (hb : t.frames.barrier = s.frames.barrier) (hc : s.calmBeforeUnwind = true) :
    t.calmBeforeUnwind = true := by
  rw [calmBeforeUnwind_iff_of_unwind hp, turnsSettled_iff, nothingToAccept_iff] at hc
  rw [calmBeforeUnwind_iff_of_unwind hp', turnsSettled_iff, nothingToAccept_iff, hu, hb]
  exact hc

/-- With nothing due before, the event is UNWIND's and what follows it. -/
theorem settle_eq_unwind (hr : s.rstN = true) (hc : s.calmBeforeUnwind = true) :
    s.settle = s.unwind.grantCaptures.startWriter.arbitrate := by
  obtain ⟨hu, hbar, hw, hq⟩ := calmBeforeUnwind_iff.1 hc
  obtain ⟨-, -, hg⟩ := upstreamCalm_iff.1 hu
  simp only [State.settle, hr, if_true, early_of_upstreamCalm hu, barrierIfDone_of_ne hbar, grantCaptures_of_nothing hg,
    startWriter_of_none hw, quiesceIfOver_of_not hq]

/-! ### One step after another -/

/-- A step that begins leaves the state (a PENDING back entry, log 28), takes a VOID entry off the queue, or puts a record
in hand. -/
theorem beginStep_cases (s : State) :
    s.beginStep = s ∨ s.beginStep.log.staging.length + 1 = s.log.staging.length ∨ s.beginStep.betweenSteps = false := by
  unfold State.beginStep
  cases hl : s.log.staging.getLast? with
  | none => exact .inr (.inr (by simp [State.regionStep, State.betweenSteps]))
  | some e =>
    dsimp only
    unfold State.stageStep
    cases e.content with
    | pending => exact .inl rfl
    | void =>
      have hpos := List.length_pos_of_mem (List.mem_of_getLast? hl)
      refine .inr (.inl ?_)
      dsimp only
      rw [List.length_dropLast, Nat.sub_add_cancel hpos]
    | image d => exact .inr (.inr (by simp [State.handWriteBack, State.betweenSteps]))

theorem unwindLoop_of_not (h : s.betweenSteps = false) (n : Nat) : State.unwindLoop n s = s := by
  cases n with
  | zero => rfl
  | succ n => simp [State.unwindLoop, h]

/-- Between two steps, with the stop point not reached, a round begins a step. -/
theorem unwindLoop_step (hb : s.betweenSteps = true) (hs : s.atStop = false) (n : Nat) :
    State.unwindLoop (n + 1) s = State.unwindLoop n s.beginStep := by
  simp [State.unwindLoop, hb, hs]

theorem unwindLoop_stop (hb : s.betweenSteps = true) (hs : s.atStop = true) (n : Nat) :
    State.unwindLoop (n + 1) s = s.completeRollback := by
  simp [State.unwindLoop, hb, hs]

/-- With a round for each staged record and one more, a further round changes nothing. -/
theorem unwindLoop_succ {n : Nat} (hn : s.log.staging.length < n) :
    State.unwindLoop (n + 1) s = State.unwindLoop n s := by
  induction n generalizing s with
  | zero => omega
  | succ n ih =>
    by_cases hb : s.betweenSteps = true
    · by_cases hs : s.atStop = true
      · rw [unwindLoop_stop hb hs, unwindLoop_stop hb hs]
      · have hs' : s.atStop = false := by simpa using hs
        rcases beginStep_cases s with hstuck | hless | hhand
        · have hround (m : Nat) : State.unwindLoop (m + 1) s = State.unwindLoop m s := by
            rw [unwindLoop_step hb hs', hstuck]
          exact hround (n + 1)
        · rw [unwindLoop_step hb hs', unwindLoop_step hb hs', ih (by omega)]
        · rw [unwindLoop_step hb hs', unwindLoop_step hb hs', unwindLoop_of_not hhand, unwindLoop_of_not hhand]
    · have hb' : s.betweenSteps = false := by simpa using hb
      rw [unwindLoop_of_not hb', unwindLoop_of_not hb']

/-- UNWIND goes on from the step that begins. -/
theorem unwind_beginStep (hb : s.betweenSteps = true) (hs : s.atStop = false) : s.unwind = s.beginStep.unwind := by
  have hround : s.unwind = State.unwindLoop (s.log.staging.length + 1) s.beginStep := unwindLoop_step hb hs _
  rcases beginStep_cases s with hstuck | hless | hhand
  · rw [hround, hstuck]
    exact (unwindLoop_succ (Nat.lt_succ_self _)).symm
  · rw [hround, ← hless]
    rfl
  · rw [hround, unwindLoop_of_not hhand, unwind_of_not hhand]

theorem beginStep_phase (s : State) : s.beginStep.engine.phase = s.engine.phase := by
  unfold State.beginStep
  split
  · unfold State.stageStep
    split <;> rfl
  · rfl

theorem beginStep_frames (s : State) : s.beginStep.frames = s.frames := by
  unfold State.beginStep
  split
  · unfold State.stageStep
    split <;> rfl
  · rfl

theorem betweenSteps_iff : s.betweenSteps = true ↔ s.engine.phase = .unwind ∧ s.engine.hand = none := by
  simp [State.betweenSteps]

/-- The event at which UNWIND goes on is that of the step that begins (R93). -/
theorem settle_beginStep (hr : s.rstN = true) (hc : s.calmBeforeUnwind = true) (hb : s.betweenSteps = true)
    (hs : s.atStop = false) : s.settle = s.beginStep.settle := by
  have hp := (betweenSteps_iff.1 hb).1
  have hc' : s.beginStep.calmBeforeUnwind = true :=
    calmBeforeUnwind_congr hp ((beginStep_phase s).trans hp) (beginStep_up s) (by rw [beginStep_frames]) hc
  rw [settle_eq_unwind hr hc, settle_eq_unwind ((beginStep_keeps s).rstN.trans hr) hc', unwind_beginStep hb hs]

/-- The event at which UNWIND reaches the stop point is that of the completion (R97, R98): the grants and the record write
that follow it are made once. -/
theorem settle_completeRollback (hr : s.rstN = true) (hc : s.calmBeforeUnwind = true) (hb : s.betweenSteps = true)
    (hs : s.atStop = true) (hbar : s.frames.barrier = none) (hn : (s.up.txns.map Txn.tag).Nodup) :
    s.settle = s.completeRollback.settle := by
  have hunwind : s.unwind = s.completeRollback := unwindLoop_stop hb hs _
  have hr' : s.completeRollback.rstN = true := (completeRollback_keeps s).rstN.trans hr
  have hmoves := completeRollback_moves_of_nodup hn
  obtain ⟨hturns, hnothing, -⟩ := (calmBeforeUnwind_iff_of_unwind (betweenSteps_iff.1 hb).1).1 hc
  have hturns' : s.completeRollback.turnsSettled = true :=
    turnsSettled_iff.2 (hmoves.turnsUsed (turnsSettled_iff.1 hturns))
  have hnothing' : s.completeRollback.nothingToAccept = true :=
    nothingToAccept_iff.2 (hmoves.nothingToAccept (nothingToAccept_iff.1 hnothing))
  have hgrants := grantCaptures_done s.completeRollback
  have hleft := grantCaptures_engineLeft s.completeRollback
  have hbar' : s.completeRollback.grantCaptures.frames.barrier ≠ some [] := by
    simp [hleft.barrier (completeRollback_barrier hbar)]
  have hphase : s.completeRollback.grantCaptures.startWriter.engine.phase = .idle := by
    rw [(startWriter_framesLeft _).engine, hleft.engine]
    rfl
  have hover : s.completeRollback.grantCaptures.startWriter.quiesceOver = false := by simp [State.quiesceOver, hphase]
  have hstill : s.completeRollback.grantCaptures.startWriter.betweenSteps = false := by
    simp [State.betweenSteps, hphase]
  rw [settle_eq_unwind hr hc, hunwind]
  simp only [State.settle, hr', if_true]
  rw [wake_of_turnsSettled hturns', acceptPresented_of_nothing hnothing', barrierIfDone_of_ne hbar',
    hgrants.grantCaptures_eq, quiesceIfOver_of_not hover, unwind_of_not hstill, hgrants.startWriter.grantCaptures_eq,
    startWriter_startWriter]

/-- An event that finds UNWIND between two steps goes on as R93 and R97 say. -/
theorem stepEnded_of_settle {o : Host.Outcome State Fault Refusal} {v : State} (hr : v.rstN = true)
    (hb : v.betweenSteps = true) (ho : o = .next v.settle) : Effect.StepEnded o v := by
  refine fun hbar hn hc => ⟨fun hs => ?_, fun hs => ?_⟩
  · have hexec : exec .rollbackCompletion v = .next v.completeRollback.settle :=
      congrArg Host.Outcome.next (if_pos (by simp [hr, hb, hs]))
    rw [ho, hexec, settle_completeRollback hr hc hb hs hbar hn]
  · have hexec : exec .unwindStep v = .next v.beginStep.settle :=
      congrArg Host.Outcome.next (if_pos (by simp [hr, hb, hs]))
    rw [ho, hexec, settle_beginStep hr hc hb hs]

/-! ### What a step takes (R94, R95) -/

/-- A back IMAGE entry is taken: its write-back is handed over (R94). -/
theorem beginStep_image {e : StagingEntry} {d : LineData} (hp : s.engine.phase = .unwind)
    (hl : s.log.staging.getLast? = some e) (he : e.content = .image d) :
    s.beginStep = Effect.stagedStep s (s.log.head - 1#32) e.line d := by
  unfold State.beginStep State.stageStep Effect.stagedStep
  rw [hl]
  simp only [he, ← hp]
  rfl

/-- A back VOID entry leaves the queue, and the head moves down (R94). -/
theorem beginStep_void {e : StagingEntry} (hp : s.engine.phase = .unwind) (hl : s.log.staging.getLast? = some e)
    (he : e.content = .void) :
    s.beginStep =
      { s with engine.phase := .unwind, log.staging := s.log.staging.dropLast, log.head := s.log.head - 1#32 } := by
  unfold State.beginStep State.stageStep
  rw [hl]
  simp only [he, ← hp]
  rfl

/-- With the queue empty the slot in the region is taken: its two reads are handed over (R95). -/
theorem beginStep_region (hp : s.engine.phase = .unwind) (hl : s.log.staging = []) :
    s.beginStep = Effect.regionStep s (s.log.head - 1#32) := by
  unfold State.beginStep State.regionStep State.handOver Effect.regionStep
  rw [hl]
  dsimp only [List.getLast?_nil]
  rw [List.append_assoc, ← hp]
  rfl

end steps

/-! ### The two commands -/

/-- QUIESCE_END or UNWIND_STEP where it is due: with `s.endQuiesce`, which is `s` itself in UNWIND, UNWIND stands between two
steps; with the stop point not reached, the event is that of the step that begins there. -/
structure StepDue (i : Instr) (s : State) : Prop where
  between : s.endQuiesce.betweenSteps = true
  quiesceEnd : i = .quiesceEnd → exec i s = .next s.endQuiesce.settle
  begins : s.endQuiesce.atStop = false → exec i s = .next s.endQuiesce.beginStep.settle

/-- QUIESCE is over, with nothing due before: its end is the entry to UNWIND (R91). -/
theorem stepDue_quiesceEnd {s : State} (hr : s.rstN = true) (hh : s.engine.hand = none) (hq : s.quiesceOver = true)
    (hc : s.upstreamCalm = true) (hbar : s.frames.barrier ≠ some []) : StepDue .quiesceEnd s := by
  have hbetween : s.endQuiesce.betweenSteps = true := betweenSteps_iff.2 ⟨rfl, hh⟩
  have hexec : exec .quiesceEnd s = .next s.endQuiesce.settle :=
    congrArg Host.Outcome.next (if_pos (by simp [hr, hq]))
  obtain ⟨hturns, hnothing, -⟩ := upstreamCalm_iff.1 hc
  have hcalm : s.endQuiesce.calmBeforeUnwind = true :=
    (calmBeforeUnwind_iff_of_unwind rfl).2 ⟨hturns, hnothing, hbar⟩
  refine ⟨hbetween, fun _ => hexec, fun hs => ?_⟩
  rw [hexec, settle_beginStep (s := s.endQuiesce) hr hcalm hbetween hs]

/-- UNWIND stands between two steps (R93). -/
theorem stepDue_unwindStep {s : State} (hr : s.rstN = true) (hp : s.engine.phase = .unwind)
    (hh : s.engine.hand = none) : StepDue .unwindStep s := by
  have hself : s.endQuiesce = s := by
    unfold State.endQuiesce
    rw [← hp]
  have hbetween : s.betweenSteps = true := betweenSteps_iff.2 ⟨hp, hh⟩
  refine ⟨hself.symm ▸ hbetween, fun h => absurd h (by simp), fun hs => ?_⟩
  rw [hself] at hs ⊢
  exact congrArg Host.Outcome.next (if_pos (by simp [hr, hbetween, hs]))

/-- Settles O55: both commands come to UNWIND between two steps, where the step that begins takes the record below the
head. -/
theorem unwindStepsTakeTheRecordBelowTheHead : Obligations.UnwindStepsTakeTheRecordBelowTheHead := by
  intro i s hr hi
  have hdue : StepDue i s := by
    rcases hi with ⟨rfl, -, hh, hq, hc, hbar, -⟩ | ⟨rfl, hp, hh⟩
    · exact stepDue_quiesceEnd hr hh hq hc hbar
    · exact stepDue_unwindStep hr hp hh
  have hnext {u : State} (hs : s.atStop = false) (hu : s.endQuiesce.beginStep = u) : exec i s = .next u.settle :=
    hu ▸ hdue.begins hs
  refine ⟨fun h => stepEnded_of_settle hr hdue.between (hdue.quiesceEnd h), fun hs e d hl he => ?_, fun hs hl => ?_,
    fun hs e hl he => ?_⟩
  · exact gives_of_settle (hnext hs (beginStep_image rfl hl he)) hr
  · exact gives_of_settle (hnext hs (beginStep_region rfl hl)) hr
  · have hbetween := betweenSteps_iff.2 ⟨rfl, (betweenSteps_iff.1 hdue.between).2⟩
    exact stepEnded_of_settle hr hbetween (hnext hs (beginStep_void rfl hl he))

end Sys2Proof.UndoLog
end

/-! ## The answers of an unwind step: its two reads and its write-back (R95 to R97) -/

section
namespace Sys2Proof.UndoLog

open Sys2Proof Sys2Proof.Machine Sys2Proof.AccessPath

section answers

variable {s : State} {h : Hand}

/-- The first of a step's two answers is kept with the record in hand (R95). -/
theorem recordRead_first (hh : s.engine.hand = some h) (hstep : h.step = .reading none none) (isHeader : Bool)
    (resp : LineResponse) :
    s.recordRead isHeader resp =
      { s with
        engine.hand := some { h with
          step := if isHeader then .reading (some resp) none else .reading none (some resp) } } := by
  unfold State.recordRead
  rw [hh]
  dsimp only
  rw [hstep]
  cases isHeader <;> rfl

/-- A record that verifies as an IMAGE goes back to the line it names (R95, R96). -/
theorem judgeReads_of_image {header image : LineData} {line : Addr} {d : LineData}
    (hv : verifyRecord h.seq header image = .image line d) :
    s.judgeReads h (.ok header) (.ok image) =
      { s with
        engine.hand := some { h with step := .writing }
        down.waiting := s.down.waiting ++
          [{ origin := .writeBack, dir := .write, addr := line, length := 8, beats := lineBeats d }] } := by
  rw [State.judgeReads]
  simp only [hv]
  rfl

/-- A record that verifies as VOID is passed over (R95). -/
theorem judgeReads_of_void {header image : LineData} (hv : verifyRecord h.seq header image = .void) :
    s.judgeReads h (.ok header) (.ok image) = s.endStep := by
  rw [State.judgeReads]
  simp only [hv]

/-- An OK on a write-back applies the record in hand (R96). -/
theorem recordWriteBack_ok {k : DTag} (hh : s.engine.hand = some h) :
    (s.freeDownSlot k).recordWriteBack .ok = Effect.recordApplied s k h := by
  have hh' : (s.freeDownSlot k).engine.hand = some h := hh
  obtain ⟨q, source, step⟩ := h
  unfold State.recordWriteBack
  simp only [hh']
  cases source <;> rfl

end answers

/-- The answer that completes a step's reads lets the record be judged, the header line as the first of the two. -/
theorem LastReadAnswered.exec_ok {s : State} {k : DTag} {isHeader : Bool} {h : Hand} {x : LineData}
    (ha : LastReadAnswered s k isHeader h (.ok x)) (d : LineData) :
    exec (.unwindReadResponse k (.ok d)) s =
      .next (State.judgeReads (Effect.slotFreed s k) h (.ok (if isHeader then d else x))
        (.ok (if isHeader then x else d))).settle := by
  rw [ha.exec_eq]
  cases isHeader <;> rfl

/-- The write-back's response tells the Rollback Engine (R96). -/
theorem exec_writeBackResponse {s : State} {k : DTag} {line : Addr} (hk : s.dslot k = .outstanding .writeBack line false)
    (resp : MemStatus) :
    exec (.writeBackResponse k resp) s = .next ((s.freeDownSlot k).recordWriteBack resp).settle := by
  show execWriteBackResponse k resp s = _
  rw [execWriteBackResponse, hk]

/-- Settles O56: the answer is kept, or it completes the reads and the record's verdict says what follows. -/
theorem unwindReadsLeadToTheWriteBack : Obligations.UnwindReadsLeadToTheWriteBack := by
  intro k isHeader line h d s hr hk hh v
  have hh' : v.engine.hand = some h := hh
  refine ⟨fun hstep => gives_of_settle ?_ hr, fun x target image hstep hv => ?_, fun x hstep hv hp => ?_⟩
  · show execUnwindReadResponse k (.ok d) s = _
    rw [execUnwindReadResponse, hk, ← recordRead_first hh' hstep]
    cases isHeader <;> rfl
  · have ha : LastReadAnswered s k isHeader h (.ok x) := ⟨⟨line, hk⟩, hh, hstep⟩
    refine gives_of_settle ?_ hr
    rw [ha.exec_ok, judgeReads_of_image hv]
    rfl
  · have ha : LastReadAnswered s k isHeader h (.ok x) := ⟨⟨line, hk⟩, hh, hstep⟩
    refine stepEnded_of_settle hr (betweenSteps_iff.2 ⟨hp, rfl⟩) ?_
    rw [ha.exec_ok, judgeReads_of_void hv]
    rfl

/-- Settles O57: the record applied, UNWIND stands between two steps, and the next one reads the region where the queue is
empty. -/
theorem writeBackAppliesTheRecord : Obligations.WriteBackAppliesTheRecord := by
  intro k line h s hr hk hh hp v
  have hbetween : v.betweenSteps = true := betweenSteps_iff.2 ⟨hp, rfl⟩
  have hexec : exec (.writeBackResponse k .ok) s = .next v.settle := by
    rw [exec_writeBackResponse hk, recordWriteBack_ok hh]
  refine ⟨stepEnded_of_settle hr hbetween hexec, fun hc hs hl => gives_of_settle ?_ hr⟩
  have hseq : v.log.head - 1#32 = s.log.head - 2#32 := by
    show s.log.head - 1#32 - 1#32 = _
    bv_omega
  rw [hexec, settle_beginStep (s := v) hr hc hbetween hs, beginStep_region (s := v) hp hl, hseq]

end Sys2Proof.UndoLog
end

/-! ## The undo record as stored and as read back (R95, R159, Table 11.1) -/

section
namespace Sys2Proof.UndoLog

open Sys2Proof Sys2Proof.Machine

/-! ### Bytes, most significant first -/

@[simp] theorem beBytes_length (n v : Nat) : (beBytes n v).length = n := by simp [beBytes]

/-- The last byte is the least significant one. -/
theorem beBytes_succ (n v : Nat) : beBytes (n + 1) v = beBytes n (v / 256) ++ [BitVec.ofNat 8 v] := by
  unfold beBytes
  rw [List.range_succ, List.map_append]
  refine congrArg₂ (· ++ ·) (List.map_congr_left fun k hk => ?_) (by simp)
  have hk : k < n := List.mem_range.1 hk
  rw [show 8 * (n + 1 - 1 - k) = 8 + 8 * (n - 1 - k) by omega, Nat.shiftRight_add, Nat.shiftRight_eq_div_pow v 8]

theorem beNat_append_singleton (bytes : List Byte) (b : Byte) : beNat (bytes ++ [b]) = beNat bytes * 256 + b.toNat := by
  simp [beNat]

/-- The bytes of a number hold what fits in them. -/
theorem beNat_beBytes (n v : Nat) : beNat (beBytes n v) = v % 256 ^ n := by
  induction n generalizing v with
  | zero => simp [beBytes, beNat, Nat.mod_one]
  | succ n ih =>
    have hpow : 256 ^ (n + 1) = 256 * 256 ^ n := Nat.pow_succ'
    rw [beBytes_succ, beNat_append_singleton, ih, BitVec.toNat_ofNat, hpow, Nat.mod_mul]
    omega

/-- A bit vector of whole bytes is read back from them. -/
theorem ofNat_beNat_beBytes {n w : Nat} (hw : 2 ^ w ≤ 256 ^ n) (v : BitVec w) :
    BitVec.ofNat w (beNat (beBytes n v.toNat)) = v := by
  rw [beNat_beBytes, Nat.mod_eq_of_lt (v.isLt.trans_le hw), BitVec.ofNat_toNat, BitVec.setWidth_eq]

/-! ### The bytes of a line -/

theorem lineByte_lineOfBytes_zero (b : Byte) (bytes : List Byte) : lineByte (lineOfBytes (b :: bytes)) 0 = b := by
  ext i hi
  simp [lineByte, lineOfBytes, BitVec.getLsbD_eq_getElem, hi, show i < 512 by omega]

theorem lineByte_lineOfBytes_succ (b : Byte) (bytes : List Byte) {n : Nat} (hn : n + 1 < 64) :
    lineByte (lineOfBytes (b :: bytes)) (n + 1) = lineByte (lineOfBytes bytes) n := by
  ext i hi
  simp only [lineByte, lineOfBytes, List.foldr_cons, BitVec.getElem_extractLsb', BitVec.getLsbD_or,
    BitVec.getLsbD_shiftLeft, BitVec.getLsbD_setWidth]
  rw [show 8 * (n + 1) + i - 8 = 8 * n + i by omega, BitVec.getLsbD_of_ge b _ (by omega)]
  simp [show 8 * (n + 1) + i < 512 by omega]
  omega

/-- Byte `n` of a line made of bytes is the `n`th of them. -/
theorem lineByte_lineOfBytes {bytes : List Byte} {n : Nat} (hl : n < bytes.length) (hn : n < 64) :
    lineByte (lineOfBytes bytes) n = bytes[n] := by
  induction bytes generalizing n with
  | nil => simp at hl
  | cons b bytes ih =>
    cases n with
    | zero => exact lineByte_lineOfBytes_zero b bytes
    | succ n =>
      rw [lineByte_lineOfBytes_succ b bytes hn]
      exact ih (Nat.lt_of_succ_lt_succ hl) (by omega)

/-- Sixty-four bytes are read back from their line. -/
theorem lineBytes_lineOfBytes {bytes : List Byte} (hl : bytes.length = 64) : lineBytes (lineOfBytes bytes) = bytes := by
  refine List.ext_getElem (by simp [lineBytes, hl]) fun n hn hn' => ?_
  simpa [lineBytes] using lineByte_lineOfBytes hn' (hl ▸ hn')

/-! ### The header line (Table 11.1) -/

section header

variable (e : StagingEntry)

@[simp] theorem headerFields_length : (headerFields e).length = 60 := by simp [headerFields]

/-- The header line read back is its fields with the check after them. -/
theorem lineBytes_headerLine :
    lineBytes (headerLine e) = headerFields e ++ beBytes 4 (recordCheck e).toNat :=
  lineBytes_lineOfBytes (by simp)

theorem headerLine_fields : (lineBytes (headerLine e)).take 60 = headerFields e := by
  rw [lineBytes_headerLine, List.take_left' (headerFields_length e)]

theorem headerLine_check : BitVec.ofNat 32 (beNat ((lineBytes (headerLine e)).drop 60)) = recordCheck e := by
  rw [lineBytes_headerLine, List.drop_left' (headerFields_length e), ofNat_beNat_beBytes (by norm_num)]

theorem headerLine_seq : BitVec.ofNat 32 (beNat ((lineBytes (headerLine e)).take 4)) = e.seq := by
  have hseq : (lineBytes (headerLine e)).take 4 = beBytes 4 e.seq.toNat := by
    simp only [lineBytes_headerLine, headerFields, List.append_assoc]
    exact List.take_left' (beBytes_length _ _)
  rw [hseq, ofNat_beNat_beBytes (by norm_num)]

theorem headerLine_kind : lineByte (headerLine e) 4 = kindByte e.content := by
  unfold headerLine
  rw [lineByte_lineOfBytes (by simp) (by omega)]
  simp [headerFields]

theorem headerLine_line : BitVec.ofNat 40 (beNat (((lineBytes (headerLine e)).drop 10).take 5)) = e.line := by
  have hline : ((lineBytes (headerLine e)).drop 10).take 5 = beBytes 5 e.line.toNat := by
    have hbefore : (beBytes 4 e.seq.toNat ++ [kindByte e.content, BitVec.ofNat 8 e.window] ++
        beBytes 2 e.serial.toNat ++ beBytes 2 e.mapIndex).length = 10 := by simp
    rw [lineBytes_headerLine, headerFields, List.append_assoc, List.append_assoc, List.drop_left' hbefore]
    exact List.take_left' (beBytes_length _ _)
  rw [hline, ofNat_beNat_beBytes (by norm_num)]

/-- A stored record passes the check, and its kind is IMAGE or VOID; what is left is the test of its sequence (R95). -/
theorem verifyRecord_stored (hc : e.content ≠ .pending) (q : Seq) :
    verifyRecord q (headerLine e) (storedImage e.content) =
      if e.seq ≠ q then .fails .sequence
      else if kindByte e.content = 0x02#8 then .void
      else .image (lineOf e.line) (storedImage e.content) := by
  have hkind : ¬(kindByte e.content ≠ 0x01#8 ∧ kindByte e.content ≠ 0x02#8) := by
    cases h : e.content with
    | pending => exact absurd h hc
    | image d => exact fun hk => hk.1 rfl
    | void => exact fun hk => hk.2 rfl
  have hcheck : crc32 (headerFields e ++ lineBytes (storedImage e.content)) = recordCheck e := rfl
  unfold verifyRecord
  dsimp only
  rw [headerLine_fields, headerLine_check, headerLine_kind, headerLine_seq, headerLine_line, if_neg (not_not.2 hcheck),
    if_neg hkind]

end header

/-- Settles O5: the tests after the check and the kind come to the sequence and then the kind that was stored. -/
theorem storedRecordVerifies : Obligations.StoredRecordVerifies := by
  intro e
  refine ⟨fun d hc => ?_, fun hc => ?_, fun hc q hq => ?_⟩
  · rw [verifyRecord_stored e (by simp [hc]), if_neg (not_not.2 rfl), hc]
    rfl
  · rw [verifyRecord_stored e (by simp [hc]), if_neg (not_not.2 rfl), hc]
    rfl
  · rw [verifyRecord_stored e hc, if_pos hq.symm]

end Sys2Proof.UndoLog
end

/-! ## Entries answered together (R35, R37, R86) -/

section
namespace Sys2Proof.UndoLog

open Sys2Proof Sys2Proof.Machine Sys2Proof.AccessPath

/-- A slot that serves one of the entries `gone` loses it (R53). -/
def loseWrite (gone : List Tag) (c : CaptureSlot) : CaptureSlot :=
  if c.write.any (gone.contains ·) then { c with write := none } else c

/-- The entries with the tags `gone` are answered with one code, in the order of the list, and freed: all that
`State.finish` does, of several entries at once. -/
def allFinished (s : State) (gone : List Tag) (code : UpCode) : State :=
  { s with
    up.txns := s.up.txns.filter fun e => !gone.contains e.tag
    obs.responses := s.obs.responses ++ gone.map fun k => { tag := k, code := code, data := [] }
    frames.barrier := s.frames.barrier.map (·.filter (!gone.contains ·))
    engine.quiesce := s.engine.quiesce.filter (!gone.contains ·)
    cap.waitList := s.cap.waitList.filter (!gone.contains ·)
    cap.slots := s.cap.slots.map (Option.map (loseWrite gone)) }

theorem loseWrite_nil : loseWrite [] = id := by
  funext c
  cases h : c.write <;> simp [loseWrite, h]

theorem loseWrite_drop (gone : List Tag) (t : Tag) : loseWrite gone ∘ CaptureSlot.drop t = loseWrite (t :: gone) := by
  funext c
  cases h : c.write with
  | none => simp [loseWrite, CaptureSlot.drop, h]
  | some k => by_cases hk : k = t <;> simp [loseWrite, CaptureSlot.drop, h, hk]

theorem allFinished_nil (s : State) (code : UpCode) : allFinished s [] code = s := by
  simp [allFinished, loseWrite_nil]

theorem filter_ne_filter_notMem {α : Type} (key : α → Tag) (t : Tag) (gone : List Tag) (l : List α) :
    (l.filter (key · != t)).filter (fun a => !gone.contains (key a)) =
      l.filter fun a => !(t :: gone).contains (key a) := by
  rw [List.filter_filter]
  refine List.filter_congr fun a _ => ?_
  rw [List.contains_cons, Bool.not_or, Bool.and_comm]
  rfl

theorem allFinished_finish (s : State) (t : Tag) (gone : List Tag) (code : UpCode) :
    allFinished (s.finish t code []) gone code = allFinished s (t :: gone) code := by
  have hslots : (s.cap.slots.map (Option.map (CaptureSlot.drop t))).map (Option.map (loseWrite gone)) =
      s.cap.slots.map (Option.map (loseWrite (t :: gone))) := by
    rw [List.map_map, Option.map_comp_map, loseWrite_drop]
  have hresponses (x : UpResponse) (l r : List UpResponse) : l ++ [x] ++ r = l ++ x :: r := by simp
  have htags (l : List Tag) :
      (l.filter (· != t)).filter (!gone.contains ·) = l.filter (!(t :: gone).contains ·) :=
    filter_ne_filter_notMem id t gone l
  have hbarrier : (s.frames.barrier.map (·.filter (· != t))).map (·.filter (!gone.contains ·)) =
      s.frames.barrier.map (·.filter (!(t :: gone).contains ·)) := by
    rw [Option.map_map]
    exact congrArg (Option.map · _) (funext htags)
  unfold allFinished State.finish State.respond
  dsimp only
  rw [filter_ne_filter_notMem, hslots, hresponses, hbarrier, htags, htags]
  rfl

/-- Entries answered one after another are answered together. -/
theorem foldl_finish (gone : List Tag) (code : UpCode) (s : State) :
    gone.foldl (fun s t => s.finish t code []) s = allFinished s gone code := by
  induction gone generalizing s with
  | nil => exact (allFinished_nil s code).symm
  | cons t gone ih => rw [List.foldl_cons, ih, allFinished_finish]

/-- States with the same blocks are the same. -/
theorem state_ext {s t : State} (mode : s.mode = t.mode) (win : s.win = t.win) (up : s.up = t.up) (cap : s.cap = t.cap)
    (log : s.log = t.log) (frames : s.frames = t.frames) (engine : s.engine = t.engine) (ctl : s.ctl = t.ctl)
    (flt : s.flt = t.flt) (down : s.down = t.down) (link : s.link = t.link) (rstN : s.rstN = t.rstN) (obs : s.obs = t.obs)
    (pending : s.pending = t.pending) (wire : s.wire = t.wire) : s = t := by
  cases s
  cases t
  simp_all

/-- Of distinct tags, those of the entries that a test picks name these alone. -/
theorem mem_tags_filter {l : List Txn} (hn : (l.map Txn.tag).Nodup) {p : Txn → Bool} {e : Txn} (he : e ∈ l) :
    e.tag ∈ (l.filter p).map Txn.tag ↔ p e = true := by
  refine ⟨fun h => ?_, fun h => List.mem_map_of_mem (List.mem_filter.2 ⟨he, h⟩)⟩
  obtain ⟨o, ho, htag⟩ := List.mem_map.1 h
  obtain ⟨ho, hp⟩ := List.mem_filter.1 ho
  exact List.inj_on_of_nodup_map hn ho he htag ▸ hp

theorem contains_tags_filter {l : List Txn} (hn : (l.map Txn.tag).Nodup) (p : Txn → Bool) {e : Txn} (he : e ∈ l) :
    ((l.filter p).map Txn.tag).contains e.tag = p e := by
  rw [Bool.eq_iff_iff, List.contains_iff_mem, mem_tags_filter hn he]

end Sys2Proof.UndoLog
end

/-! ## Entry to FAILED, every item of R145 -/

section
namespace Sys2Proof.UndoLog

open Sys2Proof Sys2Proof.Machine Sys2Proof.AccessPath

section failed

variable {s : State}

/-- The GUARDED entries not yet issued are answered DENIED together (R37). -/
theorem foldl_deny (l : List Txn) : l.foldl State.deny s = allFinished s (l.map Txn.tag) .denied := by
  rw [← foldl_finish, List.foldl_map]
  rfl

/-- The entries denied are those not yet issued, and no other (R37). -/
theorem allFinished_unissued_txns (hn : (s.up.txns.map Txn.tag).Nodup) (code : UpCode) :
    (allFinished s (s.unissuedGuarded.map Txn.tag) code).up.txns =
      s.up.txns.filter fun e => !(e.isGuarded && e.stage != .issued) :=
  List.filter_congr fun _ he => congrArg not (contains_tags_filter hn _ he)

/-- A slot that has lost its write becomes abandoned as any other does (R54). -/
theorem abandon_comp_loseWrite (gone : List Tag) : CaptureSlot.abandon ∘ loseWrite gone = CaptureSlot.abandon := by
  funext c
  unfold Function.comp loseWrite
  split <;> rfl

/-- An answer is given to the request in hand alone (R106, R111). -/
theorem ctlAnswer_eq (c : ControlPort) (a : CtlAnswer) :
    c.answer a =
      { creq := c.creq
        handshake :=
          match c.handshake with
          | .working r => .answered r
          | h => h
        cresp :=
          match c.handshake with
          | .working _ => a
          | _ => c.cresp
        reserved := c.reserved } := by
  obtain ⟨creq, handshake, cresp, reserved⟩ := c
  cases handshake <;> rfl

theorem ctlAnswer_reserved (c : ControlPort) (a : CtlAnswer) : (c.answer a).reserved = c.reserved := by
  rw [ctlAnswer_eq]

/-- Breaking the frames up leaves the serial of the top (R17). -/
theorem topSerial_breakUp (t : State) (h : t.frames.stack = s.frames.stack.map Frame.breakUp) :
    t.topSerial = Effect.topSerial s := by
  unfold State.topSerial State.top Effect.topSerial
  rw [h, List.getLast?_map, Option.map_map]
  rfl

/-- Rollback traffic is withdrawn where it waits, and marked dropped where it is OUTSTANDING (R134). -/
theorem withdrawRollback_eq (d : DownstreamPort) :
    d.withdrawRollback =
      { slots := d.slots.map fun x =>
          match x with
          | .outstanding o l m => .outstanding o l (m || o == .unwindHeader || o == .unwindImage || o == .writeBack)
          | x => x
        waiting := d.waiting.filter fun w =>
          w.origin != .unwindHeader && w.origin != .unwindImage && w.origin != .writeBack } := by
  have hsource (o : Origin) : (o.source == .rollback) = (o == .unwindHeader || o == .unwindImage || o == .writeBack) := by
    cases o <;> rfl
  unfold DownstreamPort.withdrawRollback
  congr 1
  · refine List.map_congr_left fun x _ => ?_
    cases x with
    | outstanding o l m => simp only [DSlot.dropRollback, hsource, Bool.or_assoc]
    | free | stale => rfl
  · refine List.filter_congr fun w _ => ?_
    simp only [bne, hsource, Bool.not_or]

/-- A held reservation is cancelled, with its event (R113). -/
theorem cancelReservation_eq :
    s.cancelReservation =
      { s with
        ctl.reserved := false
        link := (if s.ctl.reserved then Effect.posted s (.reservationCancelled .failed) 0#16 else s).link } := by
  unfold State.cancelReservation
  cases h : s.ctl.reserved with
  | true => rfl
  | false =>
    refine state_ext rfl rfl rfl rfl rfl rfl rfl ?_ rfl rfl rfl rfl rfl rfl rfl
    show s.ctl = { s.ctl with reserved := false }
    rw [← h]

/-- The event of a cancelled reservation is read off the event queue, the tick count, the depth and the reservation. -/
theorem cancelled_link {t u : State} (hlink : t.link = u.link) (hticks : t.flt.ticks = u.flt.ticks)
    (hdepth : t.frames.stack.length = u.frames.stack.length) (hreserved : t.ctl.reserved = u.ctl.reserved) :
    (if t.ctl.reserved then Effect.posted t (.reservationCancelled .failed) 0#16 else t).link =
      (if u.ctl.reserved then Effect.posted u (.reservationCancelled .failed) 0#16 else u).link := by
  rw [hreserved]
  split
  · simp only [Effect.posted, hlink, hticks, hdepth]
  · exact hlink

/-- Entry to FAILED with UNWIND_WRITE is the effect of R145, item by item. -/
theorem enterFailed_eq (k : DTag) (hn : (s.up.txns.map Txn.tag).Nodup) :
    (s.freeDownSlot k).enterFailed .unwindWrite = Effect.failed s k := by
  unfold State.enterFailed
  rw [foldl_deny, cancelReservation_eq]
  refine state_ext rfl rfl ?up ?cap rfl rfl rfl ?ctl rfl ?down ?link rfl ?obs rfl rfl
  case up => exact congrArg (fun l => { s.up with txns := l }) (allFinished_unissued_txns hn .denied)
  case cap =>
    refine congrArg (fun l => { s.cap with slots := l, waitList := [] }) (?_ : List.map _ (List.map _ s.cap.slots) = _)
    rw [List.map_map, Option.map_comp_map, abandon_comp_loseWrite]
    rfl
  case ctl => exact congrArg (fun c : ControlPort => { c with reserved := false }) (ctlAnswer_eq s.ctl .failed)
  case down => exact withdrawRollback_eq (s.freeDownSlot k).down
  case link =>
    refine cancelled_link (u := Effect.posted s (.deviceFailed .unwindWrite) (Effect.topSerial s)) ?_ rfl
      (List.length_map _) ?_
    · exact congrArg₂ (fun depth serial => s.link.post
        { body := .deviceFailed .unwindWrite, stamp := s.flt.ticks, depth := depth, serial := serial })
        (List.length_map _) (topSerial_breakUp _ rfl)
    · exact ctlAnswer_reserved s.ctl .failed
  case obs =>
    refine congrArg (fun l => { s.obs with responses := s.obs.responses ++ l }) (?_ : List.map _ (List.map _ _) = _)
    rw [List.map_map]
    rfl

end failed

/-- Settles O53: the event of the ERR is the entry to FAILED. -/
theorem failureEntersFailed : Obligations.FailureEntersFailed := by
  intro k line s hr hk hn
  refine gives_of_settle ?_ hr
  rw [← enterFailed_eq k hn, exec_writeBackResponse hk]
  rfl

end Sys2Proof.UndoLog
end

/-! ## The release from HELD, entry by entry and all at once (R34)

`releasedTogether` writes out what the releases of a list of entries come to; `foldl_releaseOne` says that the releases one
after another come to it, and `release_eq_released` that the release of a cause is `Effect.released`. -/

section
namespace Sys2Proof.UndoLog

open Sys2Proof Sys2Proof.Machine Sys2Proof.AccessPath

section release

variable {s t : State} {turn captures : Txn → Bool} {e : Txn} {l : List Txn}

/-- The stage that a released entry enters: WAIT_LINE without its turn, CAPTURE or ISSUED with it. -/
def releasedStage (turn captures : Txn → Bool) (e : Txn) : Stage :=
  if !turn e then .waitLine else if captures e then .capture else .issued

/-- The entries of `l` are released: `turn` says which have their turn, and `captures` which of these a capture awaits. -/
def releasedTogether (s : State) (turn captures : Txn → Bool) (l : List Txn) : State :=
  { s with
    up.txns := s.up.txns.map fun e =>
      if (l.map Txn.tag).contains e.tag then { e with stage := releasedStage turn captures e } else e
    frames.barrier := s.frames.barrier.map (·.filter fun k =>
      !((l.filter fun e => turn e && !captures e).map Txn.tag).contains k)
    cap.waitList := s.cap.waitList ++ (l.filter fun e => turn e && captures e).map Txn.tag
    down.waiting := s.down.waiting ++ (l.filter fun e => turn e && !captures e).map Effect.ownRequest }

/-- The entries of `l` are in the table, and `turn` and `captures` say of each of them what the state says. One that a
capture awaits is no older than the writes on the wait list and than those before it in `l`. -/
structure Releasable (s : State) (turn captures : Txn → Bool) (l : List Txn) : Prop where
  tags : (s.up.txns.map Txn.tag).Nodup
  distinct : (l.map Txn.tag).Nodup
  mem : ∀ e ∈ l, e ∈ s.up.txns
  turn_eq : ∀ e ∈ l, s.hasTurn e = turn e
  captures_eq : ∀ e ∈ l, (e.isGuardedWrite && s.needsCapture e.mapIndex) = captures e
  last : ∀ e ∈ l, captures e = true → ∀ k ∈ s.cap.waitList, s.ageOf k ≤ e.age
  ordered : l.Pairwise fun a b => captures b = true → a.age ≤ b.age

/-- The youngest write joins the wait list at its end (R46). -/
theorem insertByAge_of_last {age : Tag → Nat} {t : Tag} {ks : List Tag} (h : ∀ k ∈ ks, age k ≤ age t) :
    insertByAge age t ks = ks ++ [t] := by
  induction ks with
  | nil => rfl
  | cons k ks ih =>
    obtain ⟨hk, hks⟩ := List.forall_mem_cons.1 h
    rw [insertByAge, if_neg (Nat.not_lt.2 hk), ih hks]
    rfl

/-- Of distinct tags, each finds its entry. -/
theorem findTxn_of_nodup (hn : (s.up.txns.map Txn.tag).Nodup) (he : e ∈ s.up.txns) : s.findTxn e.tag = some e := by
  obtain ⟨o, ho⟩ := findTxn_of_mem (List.mem_map_of_mem he)
  obtain ⟨hmem, htag⟩ := findTxn_mem ho
  rw [ho, List.inj_on_of_nodup_map hn hmem he htag]

/-- Turns are read off the keys of the entries. -/
theorem hasTurn_congr (h : SameEntries s.up t.up) (e : Txn) : t.hasTurn e = s.hasTurn e := by
  rw [Bool.eq_iff_iff, hasTurn_iff, hasTurn_iff]
  exact ⟨h.symm.hasTurn, h.hasTurn⟩

/-- So are ages. -/
theorem ageOf_eq_keys (s : State) (k : Tag) :
    s.ageOf k = (((s.up.txns.map txnKey).find? (·.1 == k)).map fun key => key.2.2).getD 0 := by
  rw [List.find?_map, Option.map_map]
  rfl

theorem ageOf_congr (h : SameEntries s.up t.up) (k : Tag) : t.ageOf k = s.ageOf k := by
  rw [ageOf_eq_keys, ageOf_eq_keys, h.keys]

/-- Of distinct tags, each finds the age of its entry. -/
theorem ageOf_of_nodup (hn : (s.up.txns.map Txn.tag).Nodup) (he : e ∈ s.up.txns) : s.ageOf e.tag = e.age := by
  simp [State.ageOf, findTxn_of_nodup hn he]

/-- An entry that proceeds waits for a capture where it is a write that needs one, and is issued otherwise (R30, R31). -/
theorem proceed_eq (s : State) (e : Txn) :
    s.proceed e = if e.isGuardedWrite && s.needsCapture e.mapIndex then s.joinWaitList e else s.issue e := by
  unfold State.proceed State.judge
  cases e.isGuardedWrite <;> rfl

/-- The release of one entry moves that entry alone, since its tag is its own. -/
theorem releasedTogether_singleton_up (hn : (s.up.txns.map Txn.tag).Nodup) (he : e ∈ s.up.txns) {st : Stage}
    (hst : releasedStage turn captures e = st) : (releasedTogether s turn captures [e]).up = s.up.setStage e.tag st := by
  refine congrArg (fun l => { s.up with txns := l }) (List.map_congr_left fun o ho => ?_)
  by_cases htag : o.tag = e.tag
  · obtain rfl := List.inj_on_of_nodup_map hn ho he htag
    simp [hst]
  · simp [htag]

/-- The release of one entry (R34). -/
theorem releaseOne_eq (h : Releasable s turn captures (e :: l)) :
    s.releaseOne e.tag = releasedTogether s turn captures [e] := by
  have he := h.mem e (List.mem_cons_self ..)
  have hturn := h.turn_eq e (List.mem_cons_self ..)
  have hcaptures := h.captures_eq e (List.mem_cons_self ..)
  have hlast := h.last e (List.mem_cons_self ..)
  have hup {st : Stage} (hst : releasedStage turn captures e = st) := releasedTogether_singleton_up h.tags he hst
  unfold State.releaseOne
  rw [findTxn_of_nodup h.tags he]
  dsimp only
  rw [hturn, proceed_eq, hcaptures]
  cases ht : turn e with
  | false =>
    refine state_ext rfl rfl (hup (by simp [releasedStage, ht])).symm ?_ rfl ?_ rfl rfl rfl ?_ rfl rfl rfl rfl rfl
    all_goals simp [releasedTogether, State.setStage, ht]
  | true =>
    cases hc : captures e with
    | true =>
      have hwait := insertByAge_of_last (age := s.ageOf) (t := e.tag) ((ageOf_of_nodup h.tags he).symm ▸ hlast hc)
      refine state_ext rfl rfl (hup (by simp [releasedStage, ht, hc])).symm ?_ rfl ?_ rfl rfl rfl ?_ rfl rfl rfl rfl rfl
      all_goals simp [releasedTogether, ht, hc, hwait]
    | false =>
      refine state_ext rfl rfl (hup (by simp [releasedStage, ht, hc])).symm ?_ rfl ?_ rfl rfl rfl ?_ rfl rfl rfl rfl rfl
      all_goals simp [releasedTogether, ht, hc, Effect.ownRequest, bne, beq_eq_decide]

/-- What is released of `e :: l` is released of `e`, then of `l`. -/
theorem releasedTogether_cons (he : e.tag ∉ l.map Txn.tag) :
    releasedTogether (releasedTogether s turn captures [e]) turn captures l =
      releasedTogether s turn captures (e :: l) := by
  have htxns : (releasedTogether (releasedTogether s turn captures [e]) turn captures l).up.txns =
      (releasedTogether s turn captures (e :: l)).up.txns := by
    refine (List.map_map ..).trans (List.map_congr_left fun o _ => ?_)
    by_cases htag : o.tag = e.tag
    · have hl : ¬∃ a ∈ l, a.tag = e.tag := by simpa using he
      simp [htag, hl]
    · simp [htag]
  have hfilter (p : Txn → Bool) : (e :: l).filter p = [e].filter p ++ l.filter p := by
    rw [← List.filter_append]
    rfl
  refine state_ext rfl rfl (congrArg (fun x => { s.up with txns := x }) htxns) ?_ rfl ?_ rfl rfl rfl ?_ rfl rfl rfl rfl rfl
  · simp only [releasedTogether, hfilter fun e => turn e && captures e, List.map_append, List.append_assoc]
  · simp only [releasedTogether, hfilter fun e => turn e && !captures e, List.map_append, Option.map_map]
    refine congrArg (fun f => { s.frames with barrier := s.frames.barrier.map f }) (funext fun ks => ?_)
    refine (List.filter_filter ..).trans (List.filter_congr fun k _ => ?_)
    rw [List.contains_append, Bool.not_or, Bool.and_comm]
  · simp only [releasedTogether, hfilter fun e => turn e && !captures e, List.map_append, List.append_assoc]

/-- The rest of the list can be released after its first entry. -/
theorem Releasable.step (h : Releasable s turn captures (e :: l)) : Releasable (s.releaseOne e.tag) turn captures l := by
  have hkeys : SameEntries s.up (s.releaseOne e.tag).up := (releaseOne_moves_of_nodup h.tags e.tag).sameEntries
  have hone := releaseOne_eq h
  have he : e.tag ∉ l.map Txn.tag := (List.nodup_cons.1 h.distinct).1
  obtain ⟨hbefore, hordered⟩ := List.pairwise_cons.1 h.ordered
  refine ⟨hkeys.tags_eq ▸ h.tags, (List.nodup_cons.1 h.distinct).2, fun o ho => ?_, fun o ho => ?_, fun o ho => ?_,
    fun o ho hc k hk => ?_, hordered⟩
  · have hne : o.tag ≠ e.tag := fun htag => he (htag ▸ List.mem_map_of_mem ho)
    rw [hone]
    exact List.mem_map.2 ⟨o, h.mem o (List.mem_cons_of_mem _ ho), by simp [hne]⟩
  · rw [hasTurn_congr hkeys, h.turn_eq o (List.mem_cons_of_mem _ ho)]
  · rw [hone]
    exact h.captures_eq o (List.mem_cons_of_mem _ ho)
  · rw [hone] at hk
    rw [ageOf_congr hkeys]
    rcases List.mem_append.1 hk with hk | hk
    · exact h.last o (List.mem_cons_of_mem _ ho) hc k hk
    · obtain ⟨a, ha, rfl⟩ := List.mem_map.1 hk
      obtain rfl : a = e := by simpa using (List.mem_filter.1 ha).1
      have hage := ageOf_of_nodup h.tags (h.mem a (List.mem_cons_self ..))
      exact hage.trans_le (hbefore o ho hc)

theorem releasedTogether_nil : releasedTogether s turn captures [] = s := by simp [releasedTogether]

/-- Entries released one after another are released together. -/
theorem foldl_releaseOne (h : Releasable s turn captures l) :
    (l.map Txn.tag).foldl State.releaseOne s = releasedTogether s turn captures l := by
  induction l generalizing s with
  | nil => exact releasedTogether_nil.symm
  | cons e l ih =>
    rw [List.map_cons, List.foldl_cons, ih h.step, releaseOne_eq h]
    exact releasedTogether_cons (List.nodup_cons.1 h.distinct).1

/-- Table 3.1, as the statements write it. -/
theorem needsCapture_eq (s : State) (e : Txn) : s.needsCapture e.mapIndex = Effect.needsCapture s e := by
  unfold Effect.needsCapture
  cases hf : s.frames.stack.getLast? with
  | none => exact needsCapture_of_noFrame (List.getLast?_eq_none_iff.1 hf)
  | some f => exact needsCapture_of_top hf

/-- The release of every entry that a cause holds (R34), where the writes that a capture awaits join the wait list at its
end: none on the list is younger, and the table is in their order. -/
theorem release_eq_released (cause : HoldCause) (hn : (s.up.txns.map Txn.tag).Nodup)
    (hlast : ∀ e ∈ s.up.txns, Effect.needsCapture s e = true → ∀ k ∈ s.cap.waitList, s.ageOf k ≤ e.age)
    (hordered : s.up.txns.Pairwise fun a b => Effect.needsCapture s b = true → a.age ≤ b.age) :
    s.release cause = Effect.released s cause := by
  have hsub := List.filter_sublist (l := s.up.txns) (p := fun e => e.stage == .held cause)
  have h : Releasable s (fun e => s.up.txns.all fun o => !(o.line == e.line && decide (o.age < e.age)))
      (fun e => e.isGuardedWrite && Effect.needsCapture s e) (s.up.txns.filter (·.stage == .held cause)) :=
    { tags := hn
      distinct := hn.sublist (hsub.map _)
      mem := fun e he => hsub.subset he
      turn_eq := fun e _ => List.not_any_eq_all_not ..
      captures_eq := fun e _ => by rw [needsCapture_eq]
      last := fun e he hc => hlast e (hsub.subset he) (Bool.and_elim_right hc)
      ordered := (hordered.sublist hsub).imp fun h hc => h (Bool.and_elim_right hc) }
  refine (foldl_releaseOne h).trans (state_ext rfl rfl ?_ rfl rfl rfl rfl rfl rfl rfl rfl rfl rfl rfl rfl)
  refine congrArg (fun l => { s.up with txns := l }) (List.map_congr_left fun e he => ?_)
  rw [contains_tags_filter hn _ he]
  rfl

end release

end Sys2Proof.UndoLog
end

/-! ## The start of a rollback and its overtaking (R12, R85 to R89, R110) -/

section
namespace Sys2Proof.UndoLog

open Sys2Proof Sys2Proof.Machine Sys2Proof.AccessPath

/-! ### Unissued entries under an INTACT top (R86) -/

section absorption

variable {s : State} {t : Tag} {l : List Txn}

/-- The entries with the tags `held` enter a stage together. -/
def allStaged (s : State) (held : List Tag) (st : Stage) : State :=
  { s with up.txns := s.up.txns.map fun e => if held.contains e.tag then { e with stage := st } else e }

theorem allStaged_nil (st : Stage) : allStaged s [] st = s := by simp [allStaged]

theorem allStaged_setStage (held : List Tag) (st : Stage) :
    allStaged (s.setStage t st) held st = allStaged s (t :: held) st := by
  refine congrArg (fun l => { s with up.txns := l }) ((List.map_map ..).trans (List.map_congr_left fun e _ => ?_))
  by_cases htag : e.tag = t <;> simp [htag]

/-- A move of stage does not tell entries that are answered from those that stay. -/
theorem allFinished_setStage (gone : List Tag) (code : UpCode) (st : Stage) :
    allFinished (s.setStage t st) gone code = (allFinished s gone code).setStage t st := by
  refine state_ext rfl rfl ?_ rfl rfl rfl rfl rfl rfl rfl rfl rfl rfl rfl rfl
  refine congrArg (fun l => { s.up with txns := l }) (List.filter_map.trans (congrArg _ (List.filter_congr fun e _ => ?_)))
  dsimp only [Function.comp]
  split <;> rfl

/-- Entries absorbed one after another: the writes are answered together, and the reads are HELD together. -/
theorem foldl_absorb :
    l.foldl State.absorb s =
      allStaged (allFinished s ((l.filter (·.dir == .write)).map Txn.tag) .ok)
        ((l.filter (·.dir == .read)).map Txn.tag) (.held .rollback) := by
  induction l generalizing s with
  | nil => exact ((allStaged_nil _).trans (allFinished_nil s .ok)).symm
  | cons e l ih =>
    rw [List.foldl_cons, ih]
    unfold State.absorb
    cases hd : e.dir with
    | write => simp [hd, allFinished_finish]
    | read => simp [hd, allFinished_setStage, allStaged_setStage]

/-- The absorption of the unissued entries, where no barrier is in flight and none of them is waited for (R85, R86). -/
theorem foldl_absorb_eq_absorbed (hn : (s.up.txns.map Txn.tag).Nodup) (hb : s.frames.barrier = none)
    (hq : ∀ e ∈ s.unissuedGuarded, e.tag ∉ s.engine.quiesce) :
    { s.unissuedGuarded.foldl State.absorb s with cap.waitList := [] } = Effect.absorbed s := by
  have hwrites : s.unissuedGuarded.filter (·.dir == .write) =
      s.up.txns.filter fun e => (e.isGuarded && e.stage != .issued) && e.dir == .write :=
    (List.filter_filter ..).trans (List.filter_congr fun _ _ => Bool.and_comm ..)
  have hreads : s.unissuedGuarded.filter (·.dir == .read) =
      s.up.txns.filter fun e => (e.isGuarded && e.stage != .issued) && e.dir == .read :=
    (List.filter_filter ..).trans (List.filter_congr fun _ _ => Bool.and_comm ..)
  have hgone : s.up.txns.filter (fun e => !((s.unissuedGuarded.filter (·.dir == .write)).map Txn.tag).contains e.tag) =
      s.up.txns.filter fun e => !((e.isGuarded && e.stage != .issued) && e.dir == .write) := by
    rw [hwrites]
    exact List.filter_congr fun e he => congrArg not (contains_tags_filter hn _ he)
  rw [foldl_absorb]
  refine state_ext rfl rfl ?up ?cap rfl ?frames ?engine rfl rfl rfl rfl rfl ?obs rfl rfl
  case up =>
    refine congrArg (fun l => { s.up with txns := l }) (?_ : List.map _ (List.filter _ _) = _)
    rw [hgone, hreads]
    refine List.map_congr_left fun e he => ?_
    obtain ⟨he, hstays⟩ := List.mem_filter.1 he
    rw [contains_tags_filter hn _ he]
    cases hd : e.dir with
    | read => rw [beq_self_eq_true, Bool.and_true]
    | write =>
      have hissued : (e.isGuarded && e.stage != .issued) = false := by
        rwa [hd, beq_self_eq_true, Bool.and_true, Bool.not_eq_true'] at hstays
      simp only [hissued, Bool.false_and]
  case cap =>
    rw [hwrites]
    rfl
  case frames =>
    refine congrArg (fun b => { s.frames with barrier := b }) (?_ : Option.map _ _ = _)
    rw [hb]
    rfl
  case engine =>
    refine congrArg (fun q => { s.engine with quiesce := q }) (List.filter_eq_self.2 fun k hk => ?_)
    refine Bool.not_eq_true' _ ▸ Bool.eq_false_iff.2 fun hgone => ?_
    obtain ⟨e, he, rfl⟩ := List.mem_map.1 (List.contains_iff_mem.1 hgone)
    exact hq e (List.mem_filter.1 he).1 hk
  case obs =>
    rw [hwrites]
    rfl

end absorption

/-! ### The start -/

section start

variable {s : State}

/-- The Control Port after a barrier in flight, if there is one, is abandoned: its OPEN is answered RESERVED where the
reservation can take it and BUSY otherwise (R12, R112). -/
def ctlAbandoned (s : State) : ControlPort :=
  let free := s.mode.reservation && !s.ctl.reserved
  if s.frames.barrier.isNone then s.ctl
  else
    { creq := s.ctl.creq, handshake := .answered .openFrame, cresp := if free then .reserved else .busy,
      reserved := s.ctl.reserved || free }

theorem barrierAbandoned_eq (s : State) :
    Effect.barrierAbandoned s = { s with frames.barrier := none, ctl := ctlAbandoned s } := by
  unfold Effect.barrierAbandoned ctlAbandoned
  cases h : s.frames.barrier with
  | none =>
    refine state_ext rfl rfl rfl rfl rfl ?_ rfl rfl rfl rfl rfl rfl rfl rfl rfl
    show s.frames = { s.frames with barrier := none }
    rw [← h]
  | some waited => rfl

/-- The model abandons the barrier so (R12, R112). -/
theorem abandonBarrier_eq (hb : s.frames.barrier ≠ none → s.ctl.handshake = .working .openFrame) :
    s.abandonBarrier = Effect.barrierAbandoned s := by
  unfold State.abandonBarrier Effect.barrierAbandoned
  cases hbar : s.frames.barrier with
  | none => rfl
  | some waited =>
    have hh := hb (by simp [hbar])
    unfold State.reserveOrBusy State.answer
    dsimp only
    rw [ctlAnswer_eq, ctlAnswer_eq]
    dsimp only
    rw [hh]
    cases hfree : s.mode.reservation && !s.ctl.reserved <;> simp

/-- What a rollback starts with, whatever the top: the engine in QUIESCE, the timers stopped, a barrier abandoned (R85). -/
def rollbackBegun (s : State) (all : Bool) (owed : OwedAnswer) : State :=
  { s with
    engine :=
      { phase := .quiesce, target := some (if all then 0 else s.frames.stack.length - 1), owed := owed,
        quiesce := (s.up.txns.filter fun e => e.isGuardedWrite && (e.stage == .issued || !s.topIntact)).map Txn.tag
        hand := none, applied := 0 }
    log.hold := { running := false, value := 0 }
    flt.deadline.running := false
    frames.barrier := none
    ctl := ctlAbandoned s }

/-- The statements' start of a rollback begins so. -/
theorem rollbackStarted_eq (all : Bool) (owed : OwedAnswer) :
    Effect.rollbackStarted s all owed =
      if s.topIntact then Effect.absorbed (rollbackBegun s all owed)
      else Effect.released (rollbackBegun s all owed) .barrier := by
  unfold Effect.rollbackStarted
  rw [barrierAbandoned_eq]
  rfl

/-- So does the model's. -/
theorem abandonBarrier_begun (kind : AbortKind) (fromControl : Bool)
    (hb : s.frames.barrier ≠ none → s.ctl.handshake = .working .openFrame) :
    State.abandonBarrier ({ s with engine := s.startEngine kind fromControl }.stopHold.stopDeadline) =
      rollbackBegun s (decide (kind = .all)) (if fromControl then .rollback else .none) := by
  rw [abandonBarrier_eq (s := ({ s with engine := s.startEngine kind fromControl } : State).stopHold.stopDeadline) hb,
    barrierAbandoned_eq]
  cases kind <;> rfl

/-- Under an INTACT top the quiesce set names issued writes alone, so that no unissued entry is waited for (R85). -/
theorem begun_not_waited (hn : (s.up.txns.map Txn.tag).Nodup) (ht : s.topIntact = true) (all : Bool) (owed : OwedAnswer)
    {e : Txn} (he : e ∈ s.unissuedGuarded) : e.tag ∉ (rollbackBegun s all owed).engine.quiesce := by
  obtain ⟨he, hunissued⟩ := List.mem_filter.1 he
  intro hq
  have hissued := (mem_tags_filter hn he).1 hq
  simp only [ht, Bool.not_true, Bool.or_false, Bool.and_eq_true, beq_iff_eq] at hissued
  simp [hissued.2] at hunissued

theorem needsCapture_of_not_topIntact (h : s.topIntact = false) (e : Txn) : Effect.needsCapture s e = false := by
  unfold State.topIntact State.top at h
  unfold Effect.needsCapture
  cases hf : s.frames.stack.getLast? with
  | none => rfl
  | some f => simp_all

/-- The start of a rollback: under an INTACT top the unissued entries are absorbed, and under a BROKEN one those that the
barrier held are released, of which none needs a capture. -/
theorem startRollback_eq (kind : AbortKind) (fromControl : Bool) (hn : (s.up.txns.map Txn.tag).Nodup)
    (hb : s.frames.barrier ≠ none → s.ctl.handshake = .working .openFrame) :
    s.startRollback kind fromControl =
      Effect.rollbackStarted s (decide (kind = .all)) (if fromControl then .rollback else .none) := by
  have hbegun := abandonBarrier_begun kind fromControl hb
  rw [rollbackStarted_eq, ← hbegun]
  unfold State.startRollback
  dsimp only
  rw [hbegun]
  cases ht : s.topIntact with
  | true => exact foldl_absorb_eq_absorbed hn rfl fun e he => begun_not_waited hn ht _ _ he
  | false =>
    have hno (all : Bool) (owed : OwedAnswer) (e : Txn) : Effect.needsCapture (rollbackBegun s all owed) e = false :=
      needsCapture_of_not_topIntact ht e
    exact release_eq_released .barrier hn (fun e _ h => absurd h (by simp [hno]))
      (List.pairwise_of_forall fun _ e h => absurd h (by simp [hno]))

end start

/-! ### ABORT and ABORT_ALL -/

section control

variable {s : State}

/-- A request that the Control Port takes in ACTIVE is dealt with by its owner (R104, R105). -/
theorem controlRise_active (hr : s.rstN = true) (hc : s.ctl.creq = false) (hh : s.ctl.handshake = .idle)
    (hm : s.mode.state = .active) (req : CtlRequest) (owner : State → State) :
    s.controlRise req owner = (owner (s.takeRequest req)).settle := by
  have hm' : (s.takeRequest req).mode.state = .active := hm
  unfold State.controlRise
  rw [if_neg (by simp [hc]), if_pos (by simp [hr, hh]), State.dealWith, hm']

/-- The abort request of an ABORT or, with `all`, of an ABORT_ALL (R110). -/
def abortKind (all : Bool) : AbortKind := if all then .all else .top

theorem exec_controlAbort (hr : s.rstN = true) (hc : s.ctl.creq = false) (hh : s.ctl.handshake = .idle)
    (hm : s.mode.state = .active) (all : Bool) :
    exec (if all then .abortAll else .abort) s =
      .next (State.requestAbort { s with ctl.creq := true, ctl.handshake := .working (if all then .abortAll else .abort) }
        (abortKind all) true).settle := by
  cases all with
  | true => exact congrArg Host.Outcome.next (controlRise_active hr hc hh hm .abortAll _)
  | false => exact congrArg Host.Outcome.next (controlRise_active hr hc hh hm .abort _)

/-- In IDLE, with a frame on the stack, an abort request of the Control Port starts a rollback (R84, R85). -/
theorem requestAbort_idle (hp : s.engine.phase = .idle) (hf : s.frames.stack ≠ []) (hn : (s.up.txns.map Txn.tag).Nodup)
    (hb : s.frames.barrier = none) (all : Bool) :
    s.requestAbort (abortKind all) true = Effect.rollbackStarted s all .rollback := by
  have hdepth : s.depth ≠ 0 := fun h => hf (List.length_eq_zero_iff.1 h)
  unfold State.requestAbort
  rw [if_neg (by simp [rollingBack_eq_false_iff.2 hp]), if_neg hdepth, startRollback_eq _ _ hn (absurd hb)]
  cases all <;> rfl

/-- During a rollback it overtakes (R89). -/
theorem requestAbort_overtakes {n : Nat} (hp : s.engine.phase ≠ .idle) (ht : s.engine.target = some n) (all : Bool) :
    s.requestAbort (abortKind all) true =
      { s with
        engine.target := some (if all then 0 else n - 1)
        engine.owed := if all = false ∧ n = 0 then .noFrame else .rollback } := by
  unfold State.requestAbort RollbackEngine.overtake
  rw [if_pos (rollingBack_iff.2 hp), ht]
  cases all <;> simp [abortKind]

end control

/-- Settles O29: the request taken reaches the Rollback Engine, and the event is that of the start or of the overtaking. -/
theorem controlAbortStartsOrOvertakes : Obligations.ControlAbortStartsOrOvertakes := by
  intro all s hr hc hh hm i v
  have hexec : exec i s = .next (v.requestAbort (abortKind all) true).settle := exec_controlAbort hr hc hh hm all
  refine ⟨fun hp hf hn hb => ?_, fun n hp ht => ?_⟩
  · rw [requestAbort_idle (s := v) hp hf hn hb] at hexec
    refine gives_of_settle hexec ?_
    rw [rollbackStarted_eq]
    split <;> exact hr
  · rw [requestAbort_overtakes (s := v) hp ht] at hexec
    exact gives_of_settle hexec hr

end Sys2Proof.UndoLog
end

/-! ## The handshake of the Control Port (R103, R104, R106, R107) -/

section
namespace Sys2Proof.ControlPath

open Sys2Proof Sys2Proof.Machine

variable {s : State} {req : CtlRequest}

/-! ### CACK in the states of the handshake (R103) -/

theorem cack_of_answered (hh : s.ctl.handshake = .answered req) : s.cack = true := by
  unfold State.cack
  rw [hh]

theorem cack_of_idle (hh : s.ctl.handshake = .idle) : s.cack = false := by
  unfold State.cack
  rw [hh]

/-! ### A rise outside IDLE (R104) -/

/-- Neither the code of the request nor the block that owns it matters. -/
theorem controlRise_ignored (hc : s.ctl.creq = false) (hh : s.ctl.handshake ≠ .idle) (owner : State → State) :
    s.controlRise req owner = s.raiseCreq := by
  unfold State.controlRise
  rw [if_neg (by simp [hc]), if_neg (by simp [hh])]

theorem exec_creqRiseIgnored (hc : s.ctl.creq = false) (hh : s.ctl.handshake ≠ .idle) :
    exec .creqRiseIgnored s = .next s.raiseCreq :=
  congrArg Host.Outcome.next (if_neg (by simp [hc, hh]))

theorem exec_rise_outside_idle (hc : s.ctl.creq = false) (hh : s.ctl.handshake ≠ .idle) {i : Instr}
    (hi : i ∈ [Instr.openFrame, .commit, .abort, .abortAll, .creqRiseIgnored]) : exec i s = .next s.raiseCreq := by
  simp only [List.mem_cons, List.not_mem_nil, or_false] at hi
  obtain rfl | rfl | rfl | rfl | rfl := hi
  case inr.inr.inr.inr => exact exec_creqRiseIgnored hc hh
  all_goals exact congrArg Host.Outcome.next (controlRise_ignored hc hh _)

/-! ### A fall (R106, R107) -/

/-- A fall lowers CREQ, and what becomes of the handshake depends on its state alone. -/
theorem exec_creqFall (hc : s.ctl.creq = true) :
    exec .creqFall s =
      .next { s with ctl := { s.ctl with creq := false, handshake := s.ctl.handshake.afterFall } } :=
  congrArg Host.Outcome.next (if_pos hc)

/-! ### The release (R107) -/

theorem exec_release_of_high (hc : s.ctl.creq = true) : exec .release s = .next s :=
  congrArg Host.Outcome.next (if_neg (by simp [hc]))

theorem exec_release_of_answered (hc : s.ctl.creq = false) (hh : s.ctl.handshake = .answered req) :
    exec .release s = .next { s with ctl.handshake := .idle } :=
  congrArg Host.Outcome.next (if_pos (by simp [hc, cack_of_answered hh]))

/-- Settles O31: each phase has its equation, and CACK is read off the handshake before and after the release. -/
theorem handshakeFollowsItsPhases : Obligations.HandshakeFollowsItsPhases := by
  intro s _
  refine ⟨fun i hi hc hh => exec_rise_outside_idle hc hh hi, fun req hh => ⟨fun hc => ⟨?_, exec_release_of_high hc⟩,
    fun hc => ?_⟩, fun req hh hc => ?_⟩
  · rw [exec_creqFall hc, hh]
    rfl
  · exact ⟨_, exec_release_of_answered hc hh, rfl, cack_of_answered hh, cack_of_idle rfl⟩
  · rw [exec_creqFall hc, hh]
    rfl

end Sys2Proof.ControlPath
end

/-! ## The fault lines (R116 to R119) -/

section
namespace Sys2Proof.FaultPath

open Sys2Proof Sys2Proof.Machine

variable {s : State} {l m : FaultLine}

/-! ### The latches (R116) -/

@[simp] theorem latches_get_put_same (a : Latches) (l : FaultLine) (b : Bool) : (a.put l b).get l = b := by
  cases l <;> rfl

@[simp] theorem latches_get_put_of_ne (a : Latches) (h : m ≠ l) (b : Bool) : (a.put l b).get m = a.get m := by
  cases l <;> cases m <;> simp [Latches.put, Latches.get] at h ⊢

theorem exec_faultLineRise (hr : s.rstN = true) :
    exec (.faultLineRise l) s = .next { s with flt.latches := s.flt.latches.put l true } :=
  congrArg Host.Outcome.next (if_pos hr)

theorem exec_faultLineRise_of_reset (hr : s.rstN = false) : exec (.faultLineRise l) s = .next s :=
  congrArg Host.Outcome.next (if_neg (by simp [hr]))

/-! ### FAULT_TAKEN and the action of a fault (R118, R119) -/

/-- The stack-empty mark, read off the depth, is that of the stack. -/
theorem postFault_eq_faultPosted (s : State) (x : FaultSource) (a : FaultAction) :
    s.postFault x a = Effect.faultPosted s x a := by
  have hempty : (s.depth == 0) = s.frames.stack.isEmpty := by
    unfold State.depth
    cases s.frames.stack <;> rfl
  unfold State.postFault
  rw [hempty]
  rfl

theorem actOnFault_ignore (s : State) (x : FaultSource) : s.actOnFault x .ignore = s := by
  unfold State.actOnFault
  split <;> rfl

theorem actOnFault_note (s : State) (x : FaultSource) : s.actOnFault x .note = Effect.faultPosted s x .note := by
  rw [← postFault_eq_faultPosted]
  unfold State.actOnFault
  split <;> rfl

/-- Outside ACTIVE no action starts a rollback (R119). -/
theorem actOnFault_of_not_active (hm : s.mode.state ≠ .active) (x : FaultSource) {a : FaultAction}
    (ha : a ≠ .ignore) : s.actOnFault x a = Effect.faultPosted s x .note := by
  rw [← postFault_eq_faultPosted]
  unfold State.actOnFault
  split
  next h => exact absurd h hm
  all_goals
    cases a with
    | ignore => exact absurd rfl ha
    | note | abort | abortAll => rfl

/-- A fault whose action is not an abort in this state is ignored or noted, whatever raised it. -/
theorem actOnFault_of_not_abort {a : FaultAction} (h : a = .ignore ∨ a = .note ∨ s.mode.state ≠ .active)
    (x : FaultSource) : s.actOnFault x a = if a = .ignore then s else Effect.faultPosted s x .note := by
  split
  next ha => rw [ha, actOnFault_ignore]
  next ha =>
    obtain hi | rfl | hm := h
    · exact absurd hi ha
    · exact actOnFault_note s x
    · exact actOnFault_of_not_active hm x ha

/-! ### A latch taken (R117) -/

theorem exec_takeFault (hr : s.rstN = true) (hl : s.flt.latches.get l = true) :
    exec (.takeFault l) s =
      .next (State.actOnFault { s with flt.latches := s.flt.latches.put l false } (.line l)
        (s.flt.actions.ofLine l)).settle :=
  congrArg Host.Outcome.next (if_pos (by simp [hr, hl]))

/-- Settles O32: a rise puts one latch, and the latch taken is acted on by an action that does not abort. -/
theorem faultLinesLatchAndNote : Obligations.FaultLinesLatchAndNote := by
  intro l s
  refine ⟨fun hr => ⟨_, exec_faultLineRise hr, rfl, latches_get_put_same _ _ _,
    fun m hm => latches_get_put_of_ne _ hm _⟩,
    exec_faultLineRise_of_reset, fun hr hl ha => ?_⟩
  intro v u
  have hu : v.actOnFault (.line l) (s.flt.actions.ofLine l) = u := actOnFault_of_not_abort (s := v) ha _
  have hur : u.rstN = true := by
    unfold u
    split <;> exact hr
  exact AccessPath.gives_of_settle (hu ▸ exec_takeFault hr hl) hur

end Sys2Proof.FaultPath
end

/-! ## The responses of the Downstream Port (R128, R132 to R135) -/

section
namespace Sys2Proof.DownPort

open Sys2Proof Sys2Proof.Machine Sys2Proof.AccessPath

variable {s : State} {k : DTag} {line : Addr}

/-! ### Passthrough responses (R132, R133) -/

/-- The data that a passthrough response brings the host: those of a read answered OK (R35). -/
def passthroughData : MemResponse → Direction → List Beat
  | .ok d, .read => d
  | .ok _, .write | .err, _ => []

theorem answerPassthrough_eq {e : Txn} (he : s.findTxn e.tag = some e) (resp : MemResponse) :
    s.answerPassthrough e.tag resp =
      Effect.answered s e.tag (if resp = .err then .memerr else .ok) (passthroughData resp e.dir) := by
  unfold State.answerPassthrough
  rw [he]
  cases resp with
  | err => rfl
  | ok d => cases hd : e.dir <;> simp only [hd] <;> rfl

theorem exec_passthroughResponse {t : Tag} (hk : s.dslot k = .outstanding (.txn t) line false) (resp : MemResponse) :
    exec (.passthroughResponse k resp) s = .next ((s.freeDownSlot k).answerPassthrough t resp).settle := by
  show execPassthroughResponse k resp s = _
  rw [execPassthroughResponse, hk]

/-- Settles O22: the slot freed, its entry is found and answered by the response's status and the entry's direction. -/
theorem passthroughResponseAnswersTheEntry : Obligations.PassthroughResponseAnswersTheEntry := by
  intro k resp e line s hr hk he code data u
  have hdata : data = passthroughData resp e.dir := by
    cases resp with
    | err => rfl
    | ok d => cases hd : e.dir <;> simp only [data, hd] <;> rfl
  have hu : (s.freeDownSlot k).answerPassthrough e.tag resp = u := by
    unfold u
    rw [hdata]
    exact answerPassthrough_eq (s := s.freeDownSlot k) he resp
  exact gives_of_settle (hu ▸ exec_passthroughResponse hk resp) hr

/-! ### Discarded responses (R128, R134, R135) -/

theorem exec_discardedResponse_of_free (hk : s.dslot k = .free) : exec (.discardedResponse k) s = .next s := by
  show execDiscardedResponse k s = _
  rw [execDiscardedResponse, hk]

theorem exec_discardedResponse_of_discarded (hk : s.dslot k = .stale line ∨ ∃ o, s.dslot k = .outstanding o line true) :
    exec (.discardedResponse k) s = .next (Effect.slotFreed s k).settle := by
  show execDiscardedResponse k s = _
  obtain hk | ⟨o, hk⟩ := hk
  all_goals
    rw [execDiscardedResponse, hk]
    rfl

/-- Settles O60: the freed slot is the whole effect, and while RST_N is low nothing is due after it. -/
theorem discardedResponsesTellNoBlock : Obligations.DiscardedResponsesTellNoBlock := by
  intro k s
  refine ⟨exec_discardedResponse_of_free, ?_⟩
  rintro ⟨line, hk⟩ u
  have hexec : exec (.discardedResponse k) s = .next u.settle := exec_discardedResponse_of_discarded hk
  refine ⟨fun hr => ?_, fun hr => ?_⟩
  · rw [hexec, settle_of_reset (s := u) hr]
  · exact gives_of_settle (u := u) hexec hr

end Sys2Proof.DownPort
end

/-! ## What each part of an event leaves of the lines of the downstream slots (R128, R130) -/

section
namespace Sys2Proof.DownPort

open Sys2Proof Sys2Proof.Machine Sys2Proof.AccessPath

/-- The line that each downstream slot holds, slot by slot. The dropped mark (R134) and the turn to STALE (R135) keep it. -/
def slotLines (s : State) : List (Option Addr) := s.down.slots.map DSlot.line?

theorem slotLines_foldl {α : Type} {f : State → α → State} (hf : ∀ s a, slotLines (f s a) = slotLines s) (l : List α)
    (s : State) : slotLines (l.foldl f s) = slotLines s := by
  induction l generalizing s with
  | nil => rfl
  | cons a l ih => exact (ih _).trans (hf s a)

variable (s : State)

theorem slotLines_post (b : EventBody) (q : Serial) : slotLines (s.post b q) = slotLines s := rfl

theorem slotLines_answer (a : CtlAnswer) : slotLines (s.answer a) = slotLines s := rfl

/-! ### Captures -/

theorem slotLines_reclaim (q : Seq) : slotLines (s.reclaim q) = slotLines s := by
  unfold State.reclaim
  dsimp only
  split <;> rfl

theorem slotLines_judge (e : Txn) : slotLines (s.judge e) = slotLines s := by
  unfold State.judge
  split <;> rfl

theorem slotLines_rejudge : slotLines s.rejudge = slotLines s := by
  have hone : ∀ (s : State) t, slotLines (s.rejudgeOne t) = slotLines s := fun s t => by
    unfold State.rejudgeOne
    split
    · rfl
    · split <;> rfl
  have hall := slotLines_foldl hone s.cap.waitList s
  unfold State.rejudge
  dsimp only
  split
  · exact hall
  · exact hall

theorem slotLines_breakLowest (c : BreakCause) : slotLines (s.breakLowest c) = slotLines s := by
  unfold State.breakLowest
  dsimp only
  split
  · rfl
  split
  · exact (slotLines_rejudge _).trans (slotLines_reclaim { s with frames.stack := _ } _)
  · exact slotLines_reclaim { s with frames.stack := _ } _

theorem slotLines_grantOldest : slotLines s.grantOldest = slotLines s := by
  unfold State.grantOldest
  split
  · rfl
  · split <;> rfl

theorem slotLines_grantLoop (n : Nat) (x : Bool) : slotLines (State.grantLoop n x s) = slotLines s := by
  induction n generalizing s x with
  | zero => rfl
  | succ n ih =>
    unfold State.grantLoop
    split
    · rfl
    split
    · exact (ih _ _).trans (slotLines_grantOldest s)
    split
    · exact (ih _ _).trans (slotLines_breakLowest s _)
    split
    · exact (ih _ _).trans (slotLines_breakLowest s _)
    · rfl

theorem slotLines_grantCaptures : slotLines s.grantCaptures = slotLines s := slotLines_grantLoop s _ _

theorem slotLines_expireHold : slotLines s.expireHold = slotLines s :=
  (slotLines_grantLoop _ _ _).trans (slotLines_breakLowest s.stopHold _)

/-! ### The Upstream Port -/

theorem slotLines_proceed (e : Txn) : slotLines (s.proceed e) = slotLines s := by
  unfold State.proceed
  split
  · exact slotLines_judge s e
  · rfl

theorem slotLines_wake : slotLines s.wake = slotLines s := by
  refine slotLines_foldl (fun s t => ?_) _ s
  unfold State.wakeOne
  split
  · rfl
  split
  · exact slotLines_proceed s _
  · rfl

theorem slotLines_release (c : HoldCause) : slotLines (s.release c) = slotLines s := by
  refine slotLines_foldl (fun s t => ?_) _ s
  unfold State.releaseOne
  split
  · rfl
  split
  · exact slotLines_proceed s _
  · rfl

theorem slotLines_enroll (e : Txn) : slotLines (s.enroll e) = slotLines s := by
  unfold State.enroll
  dsimp only
  split
  · rfl
  split
  · rfl
  split
  · exact slotLines_proceed { s with up := _ } e
  · rfl

theorem slotLines_accept (r : Request) : slotLines (s.accept r) = slotLines s := by
  unfold State.accept
  repeat' split
  · rfl
  · rfl
  · exact slotLines_enroll s _
  · rfl
  · exact slotLines_enroll s _
  · exact slotLines_enroll s _

theorem slotLines_acceptPresented : slotLines s.acceptPresented = slotLines s := by
  unfold State.acceptPresented
  split
  · rfl
  split
  · exact slotLines_accept { s with up.presented := none } _
  · rfl

/-! ### Frames, the log writer and the Rollback Engine -/

theorem slotLines_push (c : Serial × Bool) (o : FrameOrigin) : slotLines (s.push c o) = slotLines s := by
  unfold State.push
  dsimp only
  split <;> rfl

theorem slotLines_fold : slotLines s.fold = slotLines s := by
  unfold State.fold
  dsimp only
  split
  · split
    · exact slotLines_reclaim (State.post { s with frames.stack := _ } _ _) _
    · rfl
  · rfl

theorem slotLines_decideOpen : slotLines s.decideOpen = slotLines s := by
  unfold State.decideOpen
  dsimp only
  repeat' split
  · rfl
  · rfl
  · rw [slotLines_answer, slotLines_push, slotLines_fold]
  · rw [slotLines_answer, slotLines_push]

theorem slotLines_completeBarrier : slotLines s.completeBarrier = slotLines s :=
  (slotLines_release _ _).trans (slotLines_decideOpen { s with frames.barrier := none })

theorem slotLines_barrierIfDone : slotLines s.barrierIfDone = slotLines s := by
  unfold State.barrierIfDone
  split
  · exact slotLines_completeBarrier s
  · rfl
  · rfl

theorem slotLines_startWriter : slotLines s.startWriter = slotLines s := by
  unfold State.startWriter
  split <;> rfl

theorem slotLines_quiesceIfOver : slotLines s.quiesceIfOver = slotLines s := by
  unfold State.quiesceIfOver
  split <;> rfl

theorem slotLines_beginStep : slotLines s.beginStep = slotLines s := by
  unfold State.beginStep
  split
  · unfold State.stageStep
    split <;> rfl
  · rfl

theorem slotLines_popFrames : slotLines s.popFrames = slotLines s := by
  unfold State.popFrames
  dsimp only
  split
  · exact slotLines_reclaim { s with frames.stack := _ } _
  · rfl

theorem slotLines_giveOwed (p : Bool) : slotLines (s.giveOwed p) = slotLines s := by
  unfold State.giveOwed
  split <;> rfl

theorem slotLines_takeReservation : slotLines s.takeReservation = slotLines s := by
  unfold State.takeReservation
  dsimp only
  split
  · split
    · rfl
    · rw [slotLines_post, slotLines_push]
      rfl
  · rfl

theorem slotLines_reloadIfFrames : slotLines s.reloadIfFrames = slotLines s := by
  unfold State.reloadIfFrames
  split <;> rfl

theorem slotLines_completeRollback : slotLines s.completeRollback = slotLines s := by
  have hengine (u : State) (g : RollbackEngine) : slotLines { u with engine := g } = slotLines u := rfl
  unfold State.completeRollback
  rw [hengine, slotLines_reloadIfFrames, slotLines_release, slotLines_takeReservation, slotLines_giveOwed,
    slotLines_popFrames]

theorem slotLines_unwind : slotLines s.unwind = slotLines s := by
  unfold State.unwind
  generalize s.log.staging.length + 2 = n
  induction n generalizing s with
  | zero => rfl
  | succ n ih =>
    unfold State.unwindLoop
    split
    · split
      · exact slotLines_completeRollback s
      · exact (ih _).trans (slotLines_beginStep s)
    · rfl

/-! ### Direct effects -/

theorem slotLines_answerPassthrough (t : Tag) (resp : MemResponse) :
    slotLines (s.answerPassthrough t resp) = slotLines s := by
  unfold State.answerPassthrough
  repeat' split
  all_goals rfl

theorem slotLines_completeCapture (n : Nat) (resp : LineResponse) :
    slotLines (s.completeCapture n resp) = slotLines s := by
  unfold State.completeCapture State.captureOk State.captureErr
  dsimp only
  repeat' split
  all_goals rfl

/-- The dropped mark leaves the line of a slot (R134). -/
theorem line?_dropRollback (d : DSlot) : d.dropRollback.line? = d.line? := by
  cases d <;> rfl

theorem slotLines_withdrawRollback : slotLines { s with down := s.down.withdrawRollback } = slotLines s := by
  refine (List.map_map ..).trans (List.map_congr_left fun d _ => ?_)
  exact line?_dropRollback d

theorem slotLines_enterFailed (cause : FailCause) : slotLines (s.enterFailed cause) = slotLines s := by
  have hdeny := slotLines_foldl (f := State.deny) (fun _ _ => rfl) s.unissuedGuarded s
  unfold State.enterFailed State.cancelReservation
  dsimp only
  split
  · exact (slotLines_withdrawRollback _).trans hdeny
  · exact (slotLines_withdrawRollback _).trans hdeny

theorem slotLines_endAttempt (j : WriterJob) : slotLines (s.endAttempt j) = slotLines s := by
  unfold State.endAttempt
  dsimp only
  split
  · rfl
  split
  · rfl
  split
  · split
    · rfl
    · exact slotLines_enterFailed { s with log.writer := none } _
  · rfl

theorem slotLines_countLogAnswer (resp : MemStatus) : slotLines (s.countLogAnswer resp) = slotLines s := by
  unfold State.countLogAnswer
  dsimp only
  split
  · rfl
  split
  · exact slotLines_endAttempt s _
  · rfl

theorem slotLines_judgeReads (h : Hand) (hd im : LineResponse) : slotLines (s.judgeReads h hd im) = slotLines s := by
  obtain ⟨cause, he⟩ | he | ⟨line, data, he⟩ := judgeReads_cases s h hd im
  · rw [he, slotLines_enterFailed]
  · rw [he]
    rfl
  · rw [he]
    rfl

theorem slotLines_recordRead (b : Bool) (resp : LineResponse) : slotLines (s.recordRead b resp) = slotLines s := by
  unfold State.recordRead
  dsimp only
  split
  · split
    · split
      · exact slotLines_judgeReads s _ _ _
      · rfl
    · rfl
  · rfl

theorem slotLines_recordWriteBack (resp : MemStatus) : slotLines (s.recordWriteBack resp) = slotLines s := by
  unfold State.recordWriteBack
  dsimp only
  repeat' split
  · exact slotLines_enterFailed s _
  all_goals rfl

theorem slotLines_reserveOrBusy : slotLines s.reserveOrBusy = slotLines s := by
  unfold State.reserveOrBusy
  split <;> rfl

theorem slotLines_abandonBarrier : slotLines s.abandonBarrier = slotLines s := by
  unfold State.abandonBarrier
  split
  · rfl
  · exact slotLines_reserveOrBusy { s with frames.barrier := none }

theorem slotLines_absorb (e : Txn) : slotLines (s.absorb e) = slotLines s := by
  unfold State.absorb
  split <;> rfl

theorem slotLines_requestAbort (kind : AbortKind) (b : Bool) : slotLines (s.requestAbort kind b) = slotLines s := by
  have hbegun := slotLines_abandonBarrier ({ s with engine := s.startEngine kind b }.stopHold.stopDeadline)
  unfold State.requestAbort State.startRollback
  dsimp only
  repeat' split
  · rfl
  · rfl
  · rfl
  · exact (slotLines_foldl slotLines_absorb _ _).trans hbegun
  · exact (slotLines_release _ _).trans hbegun

theorem slotLines_actOnFault (x : FaultSource) (a : FaultAction) : slotLines (s.actOnFault x a) = slotLines s := by
  unfold State.actOnFault
  repeat' split
  · rfl
  · rfl
  · exact slotLines_requestAbort (s.postFault x .abort) _ _
  · exact slotLines_requestAbort (s.postFault x .abortAll) _ _
  all_goals rfl

theorem slotLines_tickHold : slotLines s.tickHold = slotLines s := by
  unfold State.tickHold
  dsimp only
  repeat' split
  · exact slotLines_expireHold { s with log := _ }
  · rfl
  · rfl

theorem slotLines_tickDeadline : slotLines s.tickDeadline = slotLines s := by
  unfold State.tickDeadline
  dsimp only
  repeat' split
  · exact slotLines_actOnFault { s with flt := _ } _ _
  · rfl
  · rfl

theorem slotLines_countPulse : slotLines s.countPulse = slotLines s := by
  unfold State.countPulse State.tick
  split
  · exact (slotLines_tickDeadline _).trans (slotLines_tickHold { s with flt := _ })
  · rfl

theorem slotLines_dealOpen : slotLines s.dealOpen = slotLines s := by
  unfold State.dealOpen
  split
  · exact slotLines_reserveOrBusy s
  · rfl

theorem slotLines_commitTop : slotLines s.commitTop = slotLines s := by
  unfold State.commitTop
  dsimp only
  split
  · rfl
  split
  · rw [slotLines_rejudge, slotLines_post]
    exact slotLines_reclaim { s with frames.stack := _ } _
  · rw [slotLines_rejudge, slotLines_post]
    split
    · exact slotLines_reclaim { s with frames.stack := _ } _
    · rfl

theorem slotLines_dealCommit : slotLines s.dealCommit = slotLines s := by
  unfold State.dealCommit
  repeat' split
  · rfl
  · rfl
  · exact slotLines_commitTop s

theorem slotLines_present (r : Request) : slotLines (s.present r) = slotLines s := by
  unfold State.present
  split <;> rfl

end Sys2Proof.DownPort
end

/-! ## One request for a line at a time, and no grant left undone (R128, R130, R131)

A command leaves the Downstream Port, makes the arbiter's grants, or ends with a settled event, which ends with those grants.
Every way keeps the lines of the slots apart, and none leaves a grant undone. -/

section
namespace Sys2Proof.DownPort

open Sys2Proof Sys2Proof.Machine Sys2Proof.AccessPath

/-! ### The lines of the slots -/

/-- Sixteen slots, of which no two hold one line (R128, R130). -/
structure LinesApart (lines : List (Option Addr)) : Prop where
  length : lines.length = 16
  apart : ∀ line, lines.count (some line) ≤ 1

section lines

variable {s : State} {lines : List (Option Addr)} {line : Addr}

theorem lineOrder_iff : s.lineOrder = true ↔ LinesApart (slotLines s) := by
  have hcount : ∀ line, (s.down.slots.filterMap DSlot.line?).count line = (slotLines s).count (some line) := fun line => by
    rw [List.count_filterMap, slotLines, List.count, List.countP_map]
    rfl
  simp only [State.lineOrder, Bool.and_eq_true, beq_iff_eq, decide_eq_true_eq, List.nodup_iff_count_le_one, hcount]
  exact ⟨fun ⟨h1, h2⟩ => ⟨by simpa [slotLines] using h1, h2⟩, fun h => ⟨by simpa [slotLines] using h.length, h.apart⟩⟩

/-- A slot becomes FREE. -/
theorem LinesApart.set_none (h : LinesApart lines) (i : Nat) : LinesApart (lines.set i none) where
  length := (List.length_set ..).trans h.length
  apart line := by
    have := h.apart line
    by_cases hi : i < lines.length
    · rw [List.count_set hi]
      simp only [reduceCtorEq, beq_iff_eq, if_false]
      omega
    · rwa [List.set_eq_of_length_le (Nat.not_lt.1 hi)]

/-- A slot takes a line that none holds. -/
theorem LinesApart.set_some (h : LinesApart lines) (hfresh : some line ∉ lines) (i : Nat) :
    LinesApart (lines.set i (some line)) where
  length := (List.length_set ..).trans h.length
  apart other := by
    have hother := h.apart other
    have hline := List.count_eq_zero.2 hfresh
    by_cases hi : i < lines.length
    · rw [List.count_set hi]
      by_cases he : line = other
      · subst he
        simp [hline]
      · simp only [beq_iff_eq, Option.some.injEq, he, if_false]
        omega
    · rwa [List.set_eq_of_length_le (Nat.not_lt.1 hi)]

theorem freeDownSlot_linesApart (h : LinesApart (slotLines s)) (k : DTag) : LinesApart (slotLines (s.freeDownSlot k)) := by
  have hlines : slotLines (s.freeDownSlot k) = (slotLines s).set k.toNat none := List.map_set
  exact hlines ▸ h.set_none _

/-- A turn to STALE leaves the line of a slot (R135). -/
theorem line?_makeStale (d : DSlot) : d.makeStale.line? = d.line? := by
  cases d <;> rfl

/-- A fall of RST_N leaves the lines of the slots, and a power-up leaves none (R135, R149). -/
theorem hardReset_linesApart (h : LinesApart (slotLines s)) (cause : ResetCause) :
    LinesApart (slotLines (s.hardReset cause)) := by
  cases cause with
  | rstLow =>
    have hlines : slotLines (s.hardReset .rstLow) = slotLines s :=
      (List.map_map ..).trans (List.map_congr_left fun d _ => line?_makeStale d)
    rwa [hlines]
  | powerUp =>
    have hlines : slotLines (s.hardReset .powerUp) = List.replicate 16 none := rfl
    rw [hlines]
    exact ⟨rfl, fun line => by simp⟩

end lines

/-! ### The arbiter's grants -/

section arbiter

/-- What every grant of an eligible request keeps, the grants of one event keep, and they leave the arbiter no grant to make
(R131). -/
theorem arbitrate_induction {P : State → Prop}
    (hgrant : ∀ s w i, w ∈ s.down.eligible → s.down.lowestFree = some i → P s → P (s.grantDown w i)) {s : State}
    (h : P s) : P s.arbitrate ∧ s.arbitrate.portIdle = true := by
  induction hn : s.down.waiting.length using Nat.strong_induction_on generalizing s with
  | _ n ih =>
    cases hw : s.nextGrant with
    | none =>
      have hidle := portIdle_of_nothing (.inl hw)
      rw [arbitrate_of_idle hidle]
      exact ⟨h, hidle⟩
    | some w =>
      cases hi : s.down.lowestFree with
      | none =>
        have hidle : s.portIdle = true := by simp [State.portIdle, hi]
        rw [arbitrate_of_idle hidle]
        exact ⟨h, hidle⟩
      | some i =>
        have hmem := nextGrant_mem hw
        obtain ⟨pre, post, hwait, -⟩ := mem_eligibleFrom.1 hmem
        have hlt : (s.grantDown w i).down.waiting.length < n := by
          have hlen := List.length_erase_of_mem (show w ∈ s.down.waiting by simp [hwait])
          have hpos := List.length_pos_of_mem (show w ∈ s.down.waiting by simp [hwait])
          simp only [State.grantDown_down]
          omega
        rw [arbitrate_of_grant hw hi]
        exact ih _ hlt (hgrant s w i hmem hi h) rfl

theorem arbitrate_portIdle (s : State) : s.arbitrate.portIdle = true :=
  (arbitrate_induction (P := fun _ => True) (fun _ _ _ _ _ => id) trivial).2

/-- No slot holds the line of an eligible request (R130). -/
theorem line_not_mem_of_eligible {s : State} {w : Waiting} (h : w ∈ s.down.eligible) : some w.line ∉ slotLines s := by
  obtain ⟨_, _, _, hel⟩ := mem_eligibleFrom.1 h
  simpa [slotLines] using hel.slots

theorem arbitrate_linesApart {s : State} (h : LinesApart (slotLines s)) : LinesApart (slotLines s.arbitrate) := by
  refine (arbitrate_induction (P := fun s => LinesApart (slotLines s)) (fun s w i hw _ h => ?_) h).1
  have hlines : slotLines (s.grantDown w i) = (slotLines s).set i (some w.line) := List.map_set
  exact hlines ▸ h.set_some (line_not_mem_of_eligible hw) i

end arbiter

/-! ### A whole event -/

/-- Before its grants an event leaves the lines of the slots. -/
theorem settle_linesApart {s : State} (h : LinesApart (slotLines s)) : LinesApart (slotLines s.settle) := by
  cases hr : s.rstN with
  | false => rwa [settle_of_reset hr]
  | true =>
    simp only [State.settle, hr, if_true]
    refine arbitrate_linesApart ?_
    simpa only [slotLines_startWriter, slotLines_grantCaptures, slotLines_unwind, slotLines_quiesceIfOver,
      slotLines_barrierIfDone, slotLines_acceptPresented, slotLines_wake] using h

/-- An event ends with the arbiter's grants, or with RST_N low (R131, R135). -/
theorem settle_arbiterDone (s : State) : s.settle.arbiterDone = true := by
  unfold State.arbiterDone
  cases hr : s.rstN with
  | false => simp [(settle_keeps s).rstN, hr]
  | true => simp only [State.settle, hr, if_true, arbitrate_portIdle, Bool.or_true]

/-! ### The ends of a command -/

/-- How a command ends, for the Downstream Port: it is left, with the level of RST_N; the arbiter makes its grants; or an
event is settled after a direct effect. -/
inductive PortEnds (s : State) : State → Prop
  | kept {t : State} (hd : t.down = s.down) (hr : t.rstN = s.rstN) : PortEnds s t
  | granted {u : State} (hd : u.down = s.down) : PortEnds s u.arbitrate
  | settled {u : State} (h : LinesApart (slotLines s) → LinesApart (slotLines u)) : PortEnds s u.settle

namespace PortEnds

variable {s t u : State}

theorem refl (s : State) : PortEnds s s := .kept rfl rfl

/-- The direct effect leaves the lines of the slots. -/
theorem settled_of_eq (h : slotLines u = slotLines s) : PortEnds s u.settle := .settled fun hs => h ▸ hs

/-- A response frees its slot, and the block that it tells leaves the lines of the slots (R128). -/
theorem settled_of_response {k : DTag} (h : slotLines u = slotLines (s.freeDownSlot k)) : PortEnds s u.settle :=
  .settled fun hs => h ▸ freeDownSlot_linesApart hs k

/-- A queue of commands or of edges is shortened first. -/
theorem of_queue {s' : State} (hd : s'.down = s.down) (hr : s'.rstN = s.rstN) (h : PortEnds s' t) : PortEnds s t := by
  cases h with
  | kept hd' hr' => exact .kept (hd'.trans hd) (hr'.trans hr)
  | granted hd' => exact .granted (hd'.trans hd)
  | settled hu => exact .settled fun hs => hu (by rwa [slotLines, hd])

theorem linesApart (h : PortEnds s t) (hs : LinesApart (slotLines s)) : LinesApart (slotLines t) := by
  cases h with
  | kept hd hr => rwa [slotLines, hd]
  | granted hd => exact arbitrate_linesApart (by rwa [slotLines, hd])
  | settled hu => exact settle_linesApart (hu hs)

theorem arbiterDone (h : PortEnds s t) (hs : s.arbiterDone = true) : t.arbiterDone = true := by
  cases h with
  | kept hd hr =>
    unfold State.arbiterDone State.portIdle at hs ⊢
    rwa [hd, hr]
  | granted _ => simp [State.arbiterDone, arbitrate_portIdle]
  | settled hu => exact settle_arbiterDone _

end PortEnds

theorem controlRise_portEnds (s : State) (req : CtlRequest) {owner : State → State}
    (h : ∀ u, slotLines (owner u) = slotLines u) : PortEnds s (s.controlRise req owner) := by
  unfold State.controlRise
  split
  · exact .refl s
  split
  · refine .settled_of_eq ?_
    unfold State.dealWith
    split
    · exact h _
    all_goals rfl
  · exact .kept rfl rfl

/-- All that a command can do to the Downstream Port. -/
theorem exec_portEnds {i : Instr} {s t : State} (h : exec i s = .next t) : PortEnds s t := by
  cases i <;> obtain rfl := Host.Outcome.next.inj h
  case acceptRequest r => exact .settled_of_eq (slotLines_present s r)
  case openFrame => exact controlRise_portEnds s _ slotLines_dealOpen
  case commit => exact controlRise_portEnds s _ slotLines_dealCommit
  case abort => exact controlRise_portEnds s _ fun u => slotLines_requestAbort u _ _
  case abortAll => exact controlRise_portEnds s _ fun u => slotLines_requestAbort u _ _
  case takeFault line =>
    split
    · exact .settled_of_eq (slotLines_actOnFault { s with flt := _ } _ _)
    · exact .refl s
  case trefPulse =>
    split
    · exact .settled_of_eq (slotLines_countPulse s)
    · exact .refl s
  case holdExpired =>
    split
    · exact .settled_of_eq (slotLines_expireHold s)
    · exact .refl s
  case deadlineExpiry =>
    split
    · exact .settled_of_eq (slotLines_actOnFault { s with flt := _ } _ _)
    · exact .refl s
  case hardReset c => exact .settled fun hs => hardReset_linesApart hs c
  case leaveSetup =>
    repeat' split
    · exact .kept rfl rfl
    · exact .settled_of_eq rfl
    all_goals exact .kept rfl rfl
  case recover =>
    repeat' split
    · exact .settled_of_eq rfl
    all_goals exact .kept rfl rfl
  case forceAbort operand =>
    repeat' split
    · exact .settled_of_eq (slotLines_actOnFault (s.reply .ack []) _ _)
    all_goals exact .kept rfl rfl
  case barrierCompletion =>
    split
    · exact .settled_of_eq (slotLines_completeBarrier s)
    · exact .refl s
  case captureGrant =>
    split
    · exact .settled_of_eq (slotLines_grantCaptures s)
    · exact .refl s
  case passthroughResponse tag resp =>
    split
    · exact .settled_of_response (slotLines_answerPassthrough (s.freeDownSlot tag) _ _)
    · exact .refl s
  case preImageResponse tag resp =>
    split
    · exact .settled_of_response (slotLines_completeCapture (s.freeDownSlot tag) _ _)
    · exact .refl s
  case logWriterStart =>
    split
    · exact .settled_of_eq rfl
    · exact .refl s
  case logWriteResponse tag resp =>
    have hcount : PortEnds s ((s.freeDownSlot tag).countLogAnswer resp).settle :=
      .settled_of_response (slotLines_countLogAnswer _ _)
    split
    · exact hcount
    · exact hcount
    · exact .refl s
  case quiesceEnd =>
    split
    · exact .settled_of_eq rfl
    · exact .refl s
  case unwindStep =>
    split
    · exact .settled_of_eq (slotLines_beginStep s)
    · exact .refl s
  case unwindReadResponse tag resp =>
    split
    · exact .settled_of_response (slotLines_recordRead (s.freeDownSlot tag) _ _)
    · exact .settled_of_response (slotLines_recordRead (s.freeDownSlot tag) _ _)
    · exact .refl s
  case writeBackResponse tag resp =>
    split
    · exact .settled_of_response (slotLines_recordWriteBack (s.freeDownSlot tag) _)
    · exact .refl s
  case rollbackCompletion =>
    split
    · exact .settled_of_eq (slotLines_completeRollback s)
    · exact .refl s
  case downstreamGrant =>
    split
    · exact .granted rfl
    · exact .refl s
  case discardedResponse tag =>
    split
    · exact .settled_of_response (k := tag) rfl
    · exact .settled_of_response (k := tag) rfl
    all_goals exact .refl s
  case sweepClear =>
    split
    · unfold State.sweepOne
      dsimp only
      split <;> exact .kept rfl rfl
    · exact .refl s
  case rstNRise =>
    split
    · exact .refl s
    · exact .settled_of_eq rfl
  -- the commands that leave the Downstream Port and settle nothing
  all_goals repeat' split
  all_goals exact .kept rfl rfl

/-- All that a step can do to the Downstream Port: what its command does, or nothing. -/
theorem step_portEnds {s t : State} (h : step s = .next t) : PortEnds s t := by
  unfold step at h
  split at h
  · split at h
    · obtain rfl := Host.Outcome.next.inj h
      exact .refl s
    · rename_i e rest _
      obtain ⟨i, _, _, _, -, -, -, -, -, he⟩ | he | ⟨_, _, he⟩ := execEdge_cases e { s with wire := rest }
      · exact .of_queue (s' := { s with wire := rest }) rfl rfl (exec_portEnds (he ▸ h))
      · exact .of_queue (s' := { s with wire := rest }) rfl rfl (exec_portEnds (he ▸ h))
      · obtain rfl := Host.Outcome.next.inj (he.symm.trans h)
        exact .kept rfl rfl
  · rename_i c rest _
    exact .of_queue (s' := { s with pending := rest }) rfl rfl (exec_portEnds h)

/-- Settles O9: a response takes a line off the slots, and a grant adds one that no slot holds. -/
theorem stepKeepsOneRequestPerLine : Obligations.StepKeepsOneRequestPerLine := fun _ _ hs h =>
  lineOrder_iff.2 ((step_portEnds h).linesApart (lineOrder_iff.1 hs))

/-- Settles O10: a step leaves the port as it was, or ends with the arbiter's grants or with RST_N low. -/
theorem stepLeavesNoGrantUndone : Obligations.StepLeavesNoGrantUndone := fun _ _ hs h =>
  (step_portEnds h).arbiterDone hs

end Sys2Proof.DownPort
end

/-! ## Where the operating state changes (Table 9.1) -/

section
namespace Sys2Proof.OperatingStates

open Sys2Proof Sys2Proof.Machine Sys2Proof.AccessPath Sys2Proof.UndoLog

/-! ### Direct effects that keep what an event's consequences keep -/

section direct

variable (s : State)

theorem present_keeps (r : Request) : SettleKeeps s (s.present r) := by
  unfold State.present
  split
  · exact .refl s
  · apply SettleKeeps.silent <;> rfl

theorem freeDownSlot_keeps (k : DTag) : SettleKeeps s (s.freeDownSlot k) := by apply SettleKeeps.silent <;> rfl

theorem answerPassthrough_keeps (t : Tag) (resp : MemResponse) : SettleKeeps s (s.answerPassthrough t resp) := by
  unfold State.answerPassthrough
  repeat' split
  · exact .refl s
  all_goals exact finish_keeps s t _ _

theorem reserveOrBusy_keeps : SettleKeeps s s.reserveOrBusy := by
  unfold State.reserveOrBusy
  split
  · exact .trans (t := { s with ctl.reserved := true }) (by apply SettleKeeps.silent <;> rfl) (answer_keeps _ _)
  · exact answer_keeps s _

theorem abandonBarrier_keeps : SettleKeeps s s.abandonBarrier := by
  unfold State.abandonBarrier
  split
  · exact .refl s
  · exact .trans (t := { s with frames.barrier := none }) (by apply SettleKeeps.silent <;> rfl) (reserveOrBusy_keeps _)

theorem absorb_keeps (e : Txn) : SettleKeeps s (s.absorb e) := by
  unfold State.absorb
  split
  · exact finish_keeps s _ _ _
  · exact setStage_keeps s _ _

theorem startRollback_keeps (k : AbortKind) (b : Bool) : SettleKeeps s (s.startRollback k b) := by
  have hstart : SettleKeeps s ({ s with engine := s.startEngine k b }.stopHold.stopDeadline).abandonBarrier :=
    .trans (by apply SettleKeeps.silent <;> rfl) (abandonBarrier_keeps _)
  unfold State.startRollback
  dsimp only
  split
  · exact (hstart.trans (.foldl absorb_keeps _ _)).trans (by apply SettleKeeps.silent <;> rfl)
  · exact hstart.trans (release_keeps _ _)

theorem requestAbort_keeps (k : AbortKind) (b : Bool) : SettleKeeps s (s.requestAbort k b) := by
  unfold State.requestAbort
  repeat' split
  · apply SettleKeeps.silent <;> rfl
  · exact answer_keeps s _
  · exact .refl s
  · exact startRollback_keeps s k b

theorem actOnFault_keeps (x : FaultSource) (a : FaultAction) : SettleKeeps s (s.actOnFault x a) := by
  have hnote (a : FaultAction) : SettleKeeps s (s.postFault x a) := post_keeps s _ _
  unfold State.actOnFault
  split
  · split
    · exact .refl s
    · exact hnote _
    · exact (hnote _).trans (requestAbort_keeps _ _ _)
    · exact (hnote _).trans (requestAbort_keeps _ _ _)
  all_goals
    split
    · exact .refl s
    all_goals exact hnote _

theorem expireDeadline_keeps : SettleKeeps s s.expireDeadline :=
  .trans (t := { s with flt.deadline := timerStopped }) (by apply SettleKeeps.silent <;> rfl) (actOnFault_keeps _ _ _)

theorem tickHold_keeps : SettleKeeps s s.tickHold := by
  have hcount : SettleKeeps s { s with log.hold.value := s.log.hold.value + 1 } := by apply SettleKeeps.silent <;> rfl
  unfold State.tickHold
  dsimp only
  repeat' split
  · exact hcount.trans (expireHold_keeps _)
  · exact hcount
  · exact .refl s

theorem tickDeadline_keeps : SettleKeeps s s.tickDeadline := by
  have hcount : SettleKeeps s { s with flt.deadline.value := s.flt.deadline.value - 1 } := by
    apply SettleKeeps.silent <;> rfl
  unfold State.tickDeadline
  dsimp only
  repeat' split
  · exact hcount.trans (expireDeadline_keeps _)
  · exact hcount
  · exact .refl s

theorem commitTop_keeps : SettleKeeps s s.commitTop := by
  have hpop : SettleKeeps s { s with frames.stack := s.frames.stack.dropLast } := by apply SettleKeeps.silent <;> rfl
  have hreclaim := hpop.trans (reclaim_keeps _ s.log.head)
  have hend {u : State} (h : SettleKeeps s u) (b : EventBody) (q : Serial) : SettleKeeps s (u.post b q).rejudge :=
    (h.trans (post_keeps u b q)).trans (rejudge_keeps _)
  unfold State.commitTop
  dsimp only
  split
  · exact .refl s
  split
  · exact hend ((hreclaim.trans (stopHold_keeps _)).trans (stopDeadline_keeps _)) _ _
  · refine hend (.trans ?_ (loadDeadline_keeps _)) _ _
    split
    · exact hreclaim
    · exact hpop

theorem dealOpen_keeps : SettleKeeps s s.dealOpen := by
  unfold State.dealOpen
  split
  · exact reserveOrBusy_keeps s
  · apply SettleKeeps.silent <;> rfl

theorem dealCommit_keeps : SettleKeeps s s.dealCommit := by
  unfold State.dealCommit
  repeat' split
  · exact answer_keeps s _
  · exact answer_keeps s _
  · exact (commitTop_keeps s).trans (answer_keeps _ _)

end direct

/-! ### Direct effects that leave the Mode Controller and write a field of their own -/

section mode

variable (s : State)

theorem countPulse_mode : s.countPulse.mode = s.mode := by
  unfold State.countPulse State.tick
  split
  · exact (tickDeadline_keeps _).mode.trans (tickHold_keeps _).mode
  · rfl

theorem controlRise_mode (req : CtlRequest) {owner : State → State} (h : ∀ u, SettleKeeps u (owner u)) :
    (s.controlRise req owner).mode = s.mode := by
  unfold State.controlRise
  split
  · rfl
  split
  · refine (settle_keeps _).mode.trans ?_
    unfold State.dealWith
    split
    · exact (h _).mode
    all_goals rfl
  · rfl

theorem completeCapture_mode (n : Nat) (resp : LineResponse) : (s.completeCapture n resp).mode = s.mode := by
  unfold State.completeCapture State.captureOk State.captureErr
  dsimp only
  repeat' split
  all_goals rfl

theorem sweepOne_mode : s.sweepOne.mode = s.mode := by
  unfold State.sweepOne
  dsimp only
  split <;> rfl

end mode

/-! ### Responses that can cause a failure (R144) -/

/-- The operating state stays, or becomes FAILED. -/
def KeptOrFailed (s t : State) : Prop := t.mode.state = s.mode.state ∨ t.mode.state = .failed

section failing

variable (s : State)

theorem enterFailed_failed (cause : FailCause) : (s.enterFailed cause).mode.state = .failed :=
  (enterFailed_failedWith s cause).failed

theorem endAttempt_keptOrFailed (j : WriterJob) : KeptOrFailed s (s.endAttempt j) := by
  unfold State.endAttempt
  dsimp only
  repeat' split
  · exact .inl rfl
  · exact .inl rfl
  · exact .inl rfl
  · exact .inr (enterFailed_failed _ _)
  · exact .inl rfl

theorem countLogAnswer_keptOrFailed (resp : MemStatus) : KeptOrFailed s (s.countLogAnswer resp) := by
  unfold State.countLogAnswer
  dsimp only
  repeat' split
  · exact .inl rfl
  · exact endAttempt_keptOrFailed s _
  · exact .inl rfl

theorem judgeReads_keptOrFailed (h : Hand) (hd im : LineResponse) : KeptOrFailed s (s.judgeReads h hd im) := by
  rcases judgeReads_cases s h hd im with ⟨cause, he⟩ | he | ⟨line, data, he⟩
  · exact .inr (he ▸ enterFailed_failed s cause)
  · exact .inl (he ▸ rfl)
  · exact .inl (he ▸ rfl)

theorem recordRead_keptOrFailed (b : Bool) (resp : LineResponse) : KeptOrFailed s (s.recordRead b resp) := by
  unfold State.recordRead
  dsimp only
  repeat' split
  · exact judgeReads_keptOrFailed s _ _ _
  all_goals exact .inl rfl

theorem recordWriteBack_keptOrFailed (resp : MemStatus) : KeptOrFailed s (s.recordWriteBack resp) := by
  unfold State.recordWriteBack
  dsimp only
  repeat' split
  · exact .inr (enterFailed_failed s _)
  all_goals exact .inl rfl

end failing

/-! ### What a command can do to the operating state -/

/-- The rows of Table 9.1, each with its command, or the operating state stays. -/
inductive StateChange (s : State) : Instr → State → Prop
  | kept {i : Instr} {t : State} (h : t.mode.state = s.mode.state) : StateChange s i t
  | reset (c : ResetCause) {t : State} (ht : t.mode.state = .setup) : StateChange s (.hardReset c) t
  | left {t : State} (hs : s.mode.state = .setup) (ht : t.mode.state = .active) : StateChange s .leaveSetup t
  | entered {t : State} (hs : s.mode.state ≠ .setup) (ht : t.mode.state = .setup) : StateChange s .enterSetup t
  | recovered {t : State} (hs : s.mode.state = .failed) (ht : t.mode.state = .active) : StateChange s .recover t
  | logWrite (k : DTag) (r : MemStatus) {t : State} (ht : KeptOrFailed s t) : StateChange s (.logWriteResponse k r) t
  | unwindRead (k : DTag) (r : LineResponse) {t : State} (ht : KeptOrFailed s t) :
      StateChange s (.unwindReadResponse k r) t
  | writeBack (k : DTag) (r : MemStatus) {t : State} (ht : KeptOrFailed s t) : StateChange s (.writeBackResponse k r) t

theorem StateChange.of_mode {s t : State} {i : Instr} (h : t.mode = s.mode) : StateChange s i t :=
  .kept (congrArg ModeController.state h)

/-- An event that settles a direct effect which leaves the Mode Controller. -/
theorem StateChange.settled {s u : State} {i : Instr} (h : u.mode = s.mode) : StateChange s i u.settle :=
  .of_mode ((settle_keeps u).mode.trans h)

theorem KeptOrFailed.settled {s u : State} (h : KeptOrFailed s u) : KeptOrFailed s u.settle := by
  unfold KeptOrFailed
  rwa [(settle_keeps u).mode]

/-- All that a command can do to the operating state. -/
theorem exec_stateChange {i : Instr} {s t : State} (h : exec i s = .next t) : StateChange s i t := by
  cases i <;> obtain rfl := Host.Outcome.next.inj h
  case acceptRequest r => exact .settled (present_keeps s r).mode
  case openFrame => exact .of_mode (controlRise_mode s _ dealOpen_keeps)
  case commit => exact .of_mode (controlRise_mode s _ dealCommit_keeps)
  case abort => exact .of_mode (controlRise_mode s _ fun u => requestAbort_keeps u _ _)
  case abortAll => exact .of_mode (controlRise_mode s _ fun u => requestAbort_keeps u _ _)
  case takeFault line =>
    split
    · exact .settled (actOnFault_keeps { s with flt := _ } _ _).mode
    · exact .kept rfl
  case trefPulse =>
    split
    · exact .settled (countPulse_mode s)
    · exact .kept rfl
  case holdExpired =>
    split
    · exact .settled (expireHold_keeps s).mode
    · exact .kept rfl
  case deadlineExpiry =>
    split
    · exact .settled (expireDeadline_keeps s).mode
    · exact .kept rfl
  case hardReset c => exact .reset c (congrArg ModeController.state (settle_keeps (s.hardReset c)).mode)
  case enterSetup =>
    repeat' split
    · exact .kept rfl
    · rename_i hs _
      exact .entered (by simp [hs]) rfl
    · exact .kept rfl
    · rename_i hs
      exact .entered (by simp [hs]) rfl
    · exact .kept rfl
  case leaveSetup =>
    repeat' split
    · exact .kept rfl
    · rename_i hs _ _
      exact .left hs (congrArg ModeController.state (settle_keeps _).mode)
    all_goals exact .kept rfl
  case recover =>
    repeat' split
    · rename_i hs
      exact .recovered hs (congrArg ModeController.state (settle_keeps _).mode)
    all_goals exact .kept rfl
  case forceAbort operand =>
    repeat' split
    · exact .settled (actOnFault_keeps (s.reply .ack []) _ _).mode
    all_goals exact .kept rfl
  case barrierCompletion =>
    split
    · exact .settled (completeBarrier_keeps s).mode
    · exact .kept rfl
  case captureGrant =>
    split
    · exact .settled (grantCaptures_keeps s).mode
    · exact .kept rfl
  case passthroughResponse k resp =>
    split
    · exact .settled ((freeDownSlot_keeps s k).trans (answerPassthrough_keeps _ _ _)).mode
    · exact .kept rfl
  case preImageResponse k resp =>
    split
    · exact .settled (completeCapture_mode (s.freeDownSlot k) _ _)
    · exact .kept rfl
  case logWriterStart =>
    split
    · exact .settled rfl
    · exact .kept rfl
  case logWriteResponse k resp =>
    have hcount := (countLogAnswer_keptOrFailed (s.freeDownSlot k) resp).settled
    refine .logWrite k resp ?_
    split
    · exact hcount
    · exact hcount
    · exact .inl rfl
  case quiesceEnd =>
    split
    · exact .settled rfl
    · exact .kept rfl
  case unwindStep =>
    split
    · exact .settled (beginStep_keeps s).mode
    · exact .kept rfl
  case unwindReadResponse k resp =>
    have hread := fun b => (recordRead_keptOrFailed (s.freeDownSlot k) b resp).settled
    refine .unwindRead k resp ?_
    split
    · exact hread true
    · exact hread false
    · exact .inl rfl
  case writeBackResponse k resp =>
    refine .writeBack k resp ?_
    split
    · exact (recordWriteBack_keptOrFailed (s.freeDownSlot k) resp).settled
    · exact .inl rfl
  case rollbackCompletion =>
    split
    · exact .settled (completeRollback_keeps s).mode
    · exact .kept rfl
  case downstreamGrant =>
    split
    · exact .of_mode (arbitrate_keeps s).mode
    · exact .kept rfl
  case discardedResponse k =>
    split
    · exact .settled rfl
    · exact .settled rfl
    all_goals exact .kept rfl
  case sweepClear =>
    split
    · exact .of_mode (sweepOne_mode s)
    · exact .kept rfl
  case rstNRise =>
    split
    · exact .kept rfl
    · exact .settled rfl
  -- the commands that settle nothing and leave the operating state
  all_goals repeat' split
  all_goals exact .kept rfl

/-- Settles O16: each change of the operating state has its own command, and a response changes it to FAILED alone. -/
theorem operatingStateChangesOnlyByTable91 : Obligations.OperatingStateChangesOnlyByTable91 := by
  intro i s t h hne
  cases exec_stateChange h with
  | kept hs => exact absurd hs hne
  | reset c ht => exact .inl ⟨⟨c, rfl⟩, ht⟩
  | left hs ht => exact .inr (.inl ⟨rfl, hs, ht⟩)
  | entered hs ht => exact .inr (.inr (.inl ⟨rfl, hs, ht⟩))
  | recovered hs ht => exact .inr (.inr (.inr (.inl ⟨rfl, hs, ht⟩)))
  | logWrite k r ht => exact .inr (.inr (.inr (.inr (.inl ⟨⟨k, r, .inl rfl⟩, ht.resolve_left hne⟩))))
  | unwindRead k r ht => exact .inr (.inr (.inr (.inr (.inr ⟨⟨k, r, rfl⟩, ht.resolve_left hne⟩))))
  | writeBack k r ht => exact .inr (.inr (.inr (.inr (.inl ⟨⟨k, r, .inr rfl⟩, ht.resolve_left hne⟩))))

end Sys2Proof.OperatingStates
end

/-! ## HARD_RESET and RST_N_RISE (R149) -/

section
namespace Sys2Proof.OperatingStates

open Sys2Proof Sys2Proof.Machine Sys2Proof.AccessPath

/-- Settles O38: RST_N is low after the reset, so its event ends with the reset itself (`settle_of_reset`). -/
theorem hardResetEndsEverything : Obligations.HardResetEndsEverything := by
  intro c s hc
  have hlow : (s.hardReset c).rstN = false := by
    cases c with
    | rstLow => rfl
    | powerUp => exact hc rfl
  refine ⟨⟨s.hardReset c, congrArg Host.Outcome.next (settle_of_reset hlow), hlow, rfl, rfl, rfl, rfl, rfl, rfl, rfl, rfl,
    rfl, rfl, rfl, rfl, rfl, rfl, rfl, rfl, rfl, ?_, ?_⟩, ?_⟩
  · rintro rfl
    have hslot (n : Nat) : (s.hardReset .rstLow).down.slots[n]? = s.down.slots[n]?.map DSlot.makeStale := List.getElem?_map
    refine ⟨rfl, List.length_map _, fun n h => ?_, fun n o line d h => ?_, fun n line h => ?_⟩
    all_goals
      rw [hslot, h]
      rfl
  · rintro rfl
    exact ⟨rfl, s.cap.map.powerUp + 1, fun j => rfl⟩
  · intro hr
    refine gives_of_settle ?_ rfl
    show execRstNRise s = _
    rw [execRstNRise, hr]
    rfl

end Sys2Proof.OperatingStates
end

/-! ## The first failed check of LEAVE_SETUP (R139) -/

section
namespace Sys2Proof.OperatingStates

open Sys2Proof Sys2Proof.Machine Sys2Proof.AccessPath

/-! ### The enabled windows of a setup table -/

/-- The window of setup item `n` (Table 11.7). -/
def windowAt (setup : List ItemValue) (n : Nat) : Window := windowOfItem (setupItem setup n)

/-- Item `n` describes an enabled window. -/
def EnabledAt (setup : List ItemValue) (n : Nat) : Prop := n < 8 ∧ (windowAt setup n).enable = true

/-- The windows that the seven checks examine. -/
def enabledWindows (setup : List ItemValue) : List Window := (loadWindows setup).windows.filter Window.enable

/-- The examined windows are the enabled ones of the setup table, in their order and with their offsets in the map. -/
theorem enabledWindows_eq (setup : List ItemValue) :
    ∃ offset : Nat → Nat,
      enabledWindows setup =
        ((List.range 8).filter fun n => (windowAt setup n).enable).map fun n =>
          { windowAt setup n with mapOffset := offset n } := by
  rw [enabledWindows, loadWindows_windows, List.filter_map]
  exact ⟨_, rfl⟩

/-- A fact about an examined window that its offset does not enter is one about an enabled window of the setup table. -/
theorem exists_enabledWindow {setup : List ItemValue} {P : Window → Prop}
    (hoffset : ∀ w off, P { w with mapOffset := off } ↔ P w) :
    (∃ w ∈ enabledWindows setup, P w) ↔ ∃ n, EnabledAt setup n ∧ P (windowAt setup n) := by
  obtain ⟨offset, heq⟩ := enabledWindows_eq setup
  simp [heq, hoffset, EnabledAt]

/-! ### The checks, one by one -/

section checks

variable {setup : List ItemValue}

theorem enabledWindows_isEmpty_iff : (enabledWindows setup).isEmpty = true ↔ ∀ n, ¬EnabledAt setup n := by
  obtain ⟨offset, heq⟩ := enabledWindows_eq setup
  simp [heq, EnabledAt]

theorem pageRange_iff :
    ((enabledWindows setup).any fun w => decide (2 ^ 28 < w.basePage.toNat + w.pages)) = true ↔
      ∃ n, EnabledAt setup n ∧ ¬(windowAt setup n).basePage.toNat + (windowAt setup n).pages ≤ 2 ^ 28 := by
  simp only [List.any_eq_true, decide_eq_true_eq, not_le]
  exact exists_enabledWindow (P := fun w => 2 ^ 28 < w.basePage.toNat + w.pages) fun _ _ => Iff.rfl

/-- Two windows that each hold a page overlap exactly when they share one. -/
theorem overlaps_iff {a b : Window} (ha : 1 ≤ a.pages) (hb : 1 ≤ b.pages) :
    a.overlaps b = true ↔
      ∃ p, a.basePage.toNat ≤ p ∧ p < a.basePage.toNat + a.pages ∧
        b.basePage.toNat ≤ p ∧ p < b.basePage.toNat + b.pages := by
  simp only [Window.overlaps, Bool.and_eq_true, decide_eq_true_eq]
  constructor
  · rintro ⟨hab, hba⟩
    exact ⟨max a.basePage.toNat b.basePage.toNat, by omega, by omega, by omega, by omega⟩
  · rintro ⟨p, hp⟩
    omega

theorem someOverlap_iff (ws : List Window) :
    someOverlap ws = true ↔ ¬ws.Pairwise fun a b => ¬a.overlaps b = true := by
  induction ws with
  | nil => simp [someOverlap]
  | cons w ws ih =>
    rw [someOverlap, Bool.or_eq_true, ih, List.pairwise_cons, List.any_eq_true, not_and_or]
    simp only [not_forall, not_not, exists_prop]

/-- Some two of the enabled windows share a page. -/
theorem windowOverlap_iff (hpages : ∀ n, EnabledAt setup n → 1 ≤ (windowAt setup n).pages) :
    someOverlap (enabledWindows setup) = true ↔
      ∃ m n p, m ≠ n ∧ EnabledAt setup m ∧ EnabledAt setup n ∧
        (windowAt setup m).basePage.toNat ≤ p ∧ p < (windowAt setup m).basePage.toNat + (windowAt setup m).pages ∧
        (windowAt setup n).basePage.toNat ≤ p ∧ p < (windowAt setup n).basePage.toNat + (windowAt setup n).pages := by
  obtain ⟨offset, heq⟩ := enabledWindows_eq setup
  have hpair : (enabledWindows setup).Pairwise (fun a b => ¬a.overlaps b = true) ↔
      ∀ m n, m < n → EnabledAt setup m → EnabledAt setup n → ¬(windowAt setup m).overlaps (windowAt setup n) = true := by
    rw [heq, List.pairwise_map, List.pairwise_filter, List.pairwise_iff_getElem]
    simp only [List.length_range, List.getElem_range]
    exact ⟨fun h m n hmn hm hn => h m n hm.1 hn.1 hmn hm.2 hn.2, fun h m n hm hn hmn em en => h m n hmn ⟨hm, em⟩ ⟨hn, en⟩⟩
  rw [someOverlap_iff, hpair]
  constructor
  · intro h
    push Not at h
    obtain ⟨m, n, hmn, hm, hn, ho⟩ := h
    obtain ⟨p, hp⟩ := (overlaps_iff (hpages m hm) (hpages n hn)).1 ho
    exact ⟨m, n, p, hmn.ne, hm, hn, hp⟩
  · rintro ⟨m, n, p, hmn, hm, hn, hm1, hm2, hn1, hn2⟩ h
    rcases Nat.lt_or_gt_of_ne hmn with hlt | hlt
    · exact h m n hlt hm hn ((overlaps_iff (hpages m hm) (hpages n hn)).2 ⟨p, hm1, hm2, hn1, hn2⟩)
    · exact h n m hlt hn hm ((overlaps_iff (hpages n hn) (hpages m hm)).2 ⟨p, hn1, hn2, hm1, hm2⟩)

theorem footprint_iff :
    512 < ((enabledWindows setup).map Window.pages).sum ↔
      ¬(((List.range 8).filter fun n => (windowAt setup n).enable).map fun n => (windowAt setup n).pages).sum ≤ 512 := by
  obtain ⟨offset, heq⟩ := enabledWindows_eq setup
  rw [heq, List.map_map, not_le]
  rfl

/-- The permitted capacities are the powers of two from 64 to 65,536 (R65). -/
theorem permittedCapacities_contains_iff (c : Nat) :
    permittedCapacities.contains c = true ↔ ∃ k, 6 ≤ k ∧ k ≤ 16 ∧ c = 2 ^ k := by
  have hpowers : permittedCapacities = (List.range' 6 11).map (2 ^ ·) := by decide
  rw [List.contains_iff_mem, hpowers, List.mem_map]
  simp only [List.mem_range'_1]
  exact exists_congr fun k => by omega

/-- A window that holds a page meets a log region that holds a slot exactly when they share a byte. -/
theorem meetsLog_iff {t : WindowTable} {w : Window} (hw : 1 ≤ w.pages) (ht : 0 < t.capacity) :
    w.meetsLog t = true ↔
      ∃ b, t.logBase.toNat * 4096 ≤ b ∧ b < t.logBase.toNat * 4096 + t.capacity * 128 ∧
        w.basePage.toNat * 4096 ≤ b ∧ b < (w.basePage.toNat + w.pages) * 4096 := by
  rw [Window.meetsLog, Bool.and_eq_true, decide_eq_true_eq, decide_eq_true_eq]
  simp only [WindowTable.logEnd, WindowTable.logStart, pageBase]
  constructor
  · rintro ⟨hlog, hwin⟩
    exact ⟨max (t.logBase.toNat * 4096) (w.basePage.toNat * 4096), by omega, by omega, by omega, by omega⟩
  · rintro ⟨b, hb⟩
    omega

theorem logOverlap_iff (hpages : ∀ n, EnabledAt setup n → 1 ≤ (windowAt setup n).pages)
    (hcapacity : 0 < setupCapacity setup) :
    (enabledWindows setup).any (Window.meetsLog (loadWindows setup)) = true ↔
      ∃ n b, EnabledAt setup n ∧ (setupLogBase setup).toNat * 4096 ≤ b ∧
        b < (setupLogBase setup).toNat * 4096 + setupCapacity setup * 128 ∧
        (windowAt setup n).basePage.toNat * 4096 ≤ b ∧
        b < ((windowAt setup n).basePage.toNat + (windowAt setup n).pages) * 4096 := by
  rw [List.any_eq_true, exists_enabledWindow (P := fun w => w.meetsLog (loadWindows setup) = true) fun _ _ => Iff.rfl]
  refine exists_congr fun n => ?_
  rw [exists_and_left]
  exact and_congr_right fun hn => meetsLog_iff (hpages n hn) hcapacity

end checks

/-! ### The checks in their order -/

/-- A LEAVE_SETUP in SETUP whose checks fail is answered INVALID_SETUP with the detail, and changes nothing else. -/
theorem leaveSetup_of_failed {s : State} {detail : SetupDetail} (hready : s.ready .leaveSetup = true)
    (hstate : s.mode.state = .setup) (h : validateSetup s.mode.setup = some detail) :
    exec .leaveSetup s = .next { s with link.frame := .answered [0x06#8, detail.code] false 0 } := by
  show execLeaveSetup s = _
  rw [execLeaveSetup, if_pos hready, hstate]
  dsimp only
  rw [h]
  rfl

/-- One whose checks pass leads to ACTIVE. -/
theorem leaveSetup_of_passed {s : State} (hready : s.ready .leaveSetup = true) (hstate : s.mode.state = .setup)
    (h : validateSetup s.mode.setup = none) : ∃ t, exec .leaveSetup s = .next t ∧ t.mode.state = .active :=
  ⟨_, (leaveSetupBringsTheTableIntoForce s hready).1 hstate h |>.1, by rw [(settle_keeps _).mode]; rfl⟩

/-- Settles O40: each check of `validateSetup` is one of the spec's, and the first that fails decides. -/
theorem leaveSetupReportsTheFirstFailedCheck : Obligations.LeaveSetupReportsTheFirstFailedCheck := by
  intro s hready hstate win enabled first after logStart logEnd noWindow range overlap footprint logSize logRange
    logOverlap answer hpages
  have hempty : (enabledWindows s.mode.setup).isEmpty = true ↔ noWindow := enabledWindows_isEmpty_iff
  have hrange : _ ↔ range := pageRange_iff
  have hoverlap : _ ↔ overlap := windowOverlap_iff hpages
  have hfootprint : _ ↔ footprint := footprint_iff
  have hsize : (!permittedCapacities.contains (setupCapacity s.mode.setup)) = true ↔ logSize := by
    rw [Bool.not_eq_true', Bool.eq_false_iff]
    exact not_congr (permittedCapacities_contains_iff _)
  have hlogRange : 2 ^ 40 < (loadWindows s.mode.setup).logEnd ↔ logRange := Nat.not_le.symm
  have hlogOverlap (h : ¬logSize) : _ ↔ logOverlap := logOverlap_iff hpages (by
    obtain ⟨k, -, -, hk⟩ := not_not.1 h
    exact hk ▸ Nat.two_pow_pos k)
  have failed {detail : SetupDetail} (h : validateSetup s.mode.setup = some detail) : answer detail.code :=
    leaveSetup_of_failed hready hstate h
  classical
  have hchain : validateSetup s.mode.setup =
      if noWindow then some .noWindow else if range then some .range else if overlap then some .overlap
      else if footprint then some .footprint else if logSize then some .logSize else if logRange then some .range
      else if logOverlap then some .logOverlap else none :=
    ite_congr (propext hempty) (fun _ => rfl) fun _ => ite_congr (propext hrange) (fun _ => rfl) fun _ =>
      ite_congr (propext hoverlap) (fun _ => rfl) fun _ => ite_congr (propext hfootprint) (fun _ => rfl) fun _ =>
        ite_congr (propext hsize) (fun _ => rfl) fun hs => ite_congr (propext hlogRange) (fun _ => rfl) fun _ =>
          ite_congr (propext (hlogOverlap hs)) (fun _ => rfl) fun _ => rfl
  refine ⟨fun h1 => failed (detail := .noWindow) ?_, fun h1 h2 => failed (detail := .range) ?_,
    fun h1 h2 h3 => failed (detail := .overlap) ?_, fun h1 h2 h3 h4 => failed (detail := .footprint) ?_,
    fun h1 h2 h3 h4 h5 => failed (detail := .logSize) ?_, fun h1 h2 h3 h4 h5 h6 => failed (detail := .range) ?_,
    fun h1 h2 h3 h4 h5 h6 h7 => failed (detail := .logOverlap) ?_,
    fun h1 h2 h3 h4 h5 h6 h7 => leaveSetup_of_passed hready hstate ?_⟩
  · rw [hchain, if_pos h1]
  · rw [hchain, if_neg h1, if_pos h2]
  · rw [hchain, if_neg h1, if_neg h2, if_pos h3]
  · rw [hchain, if_neg h1, if_neg h2, if_neg h3, if_pos h4]
  · rw [hchain, if_neg h1, if_neg h2, if_neg h3, if_neg h4, if_pos h5]
  · rw [hchain, if_neg h1, if_neg h2, if_neg h3, if_neg h4, if_neg h5, if_pos h6]
  · rw [hchain, if_neg h1, if_neg h2, if_neg h3, if_neg h4, if_neg h5, if_neg h6, if_pos h7]
  · rw [hchain, if_neg h1, if_neg h2, if_neg h3, if_neg h4, if_neg h5, if_neg h6, if_neg h7]

end Sys2Proof.OperatingStates
end

/-! ## ENTER_SETUP and RECOVER (R142, R143, R148) -/

section
namespace Sys2Proof.OperatingStates

open Sys2Proof Sys2Proof.Machine Sys2Proof.AccessPath

/-- ENTER_SETUP may leave ACTIVE when the stack is empty, no rollback is in flight and no barrier is (R142). -/
theorem mayEnterSetup_iff {s : State} :
    s.mayEnterSetup = true ↔ s.frames.stack = [] ∧ s.engine.phase = .idle ∧ s.frames.barrier = none := by
  simp [State.mayEnterSetup, State.depth, State.rollingBack, State.barrierInFlight, and_assoc]

/-- A RECOVER taken in FAILED gives the state recovered and answered (R148). -/
theorem recover_gives {s : State} (hready : s.ready .recover = true) (hstate : s.mode.state = .failed) :
    Effect.Gives (exec .recover s) (Effect.recovered s) := by
  have hr : s.rstN = true := rstN_of_ready hready
  refine gives_of_settle ?_ hr
  show execRecover s = _
  rw [execRecover, if_pos hready, hstate]
  rfl

/-- Settles O42: each operating state has its own answer. -/
theorem enterSetupAndRecoverEmptyTheStack : Obligations.EnterSetupAndRecoverEmptyTheStack := by
  intro s idle refused
  refine ⟨fun hready => ?_, fun hready => ⟨recover_gives hready, fun hstate => ?_⟩⟩
  · have hexec : execEnterSetup s = _ := congrArg Host.Outcome.next (if_pos hready)
    refine ⟨?_, fun hstate hbusy => ?_, fun hstate => ?_⟩
    · rintro (⟨hstate, hidle⟩ | hstate)
      · rw [hstate] at hexec
        exact hexec.trans (congrArg Host.Outcome.next (if_pos (mayEnterSetup_iff.2 hidle)))
      · rw [hstate] at hexec
        exact hexec
    · rw [hstate] at hexec
      exact hexec.trans (congrArg Host.Outcome.next (if_neg (mt mayEnterSetup_iff.1 hbusy)))
    · rw [hstate] at hexec
      exact hexec
  · show execRecover s = _
    rw [execRecover, if_pos hready]
    cases hs : s.mode.state with
    | setup => rfl
    | active => rfl
    | failed => exact absurd hs hstate

end Sys2Proof.OperatingStates
end

/-! ## The frames of the link commands (R150, R151, Tables 10.1, 11.2 and 11.7) -/

section
namespace Sys2Proof.LinkPath

open Sys2Proof Sys2Proof.Machine Sys2Proof.UndoLog

/-! ### The bytes of an item's value -/

/-- An item's bytes are those of its value as a number, most significant first (R160). -/
theorem itemBytes_eq_beBytes (v : ItemValue) : itemBytes v = beBytes 6 v.toNat := rfl

theorem beNat_itemBytes (v : ItemValue) : beNat (itemBytes v) = v.toNat := by
  rw [itemBytes_eq_beBytes, beNat_beBytes, Nat.mod_eq_of_lt (v.isLt.trans_le (by norm_num))]

theorem itemBytes_injective : Function.Injective itemBytes := fun v w h =>
  BitVec.eq_of_toNat_eq (by rw [← beNat_itemBytes v, ← beNat_itemBytes w, h])

/-- The six bytes of a value make it again. -/
theorem valueOfBytes_itemBytes (v : ItemValue) : valueOfBytes (itemBytes v) = v :=
  itemBytes_injective (itemBytes_valueOfBytes _ _ _ _ _ _)

/-! ### Frames and their commands -/

/-- A byte names no command when it is not one of 0x01 to 0x09 (Table 11.2). -/
theorem operandCount_eq_none {code : Byte} (h : code.toNat = 0 ∨ 9 < code.toNat) : operandCount code = none := by
  unfold operandCount
  split
  case h_10 => rfl
  all_goals omega

theorem operandCount_of_wf {code : Byte} (h : (Instr.unknownCommand code).wf = true) : operandCount code = none := by
  refine operandCount_eq_none ?_
  simp only [Instr.wf, namesCommand, Bool.not_eq_true', Bool.and_eq_false_iff, decide_eq_false_iff_not] at h
  omega

/-- Settles O4: an item's value is read back from its bytes, and a byte that names no command is a frame of its own. -/
theorem linkFrameDecodesToItsCommand : Obligations.LinkFrameDecodesToItsCommand := by
  intro i bytes hwf he
  cases i <;> cases he
  case unknownCommand code => exact BlockBounds.decodeFrame_unknown (operandCount_of_wf hwf)
  case setupWrite item value =>
    exact congrArg (fun v => some (Instr.setupWrite item v)) (valueOfBytes_itemBytes value)
  all_goals rfl

/-- The first bytes of a frame that has more decode to nothing (Table 10.1). -/
theorem decodeFrame_take {i : Instr} {f : List Byte} (he : encodeFrame i = some f) {k : Nat} (hk : 0 < k)
    (hlt : k < f.length) : decodeFrame (f.take k) = none := by
  cases i <;> cases he
  case setupWrite item value =>
    have hlt : k < 8 := hlt
    interval_cases k <;> rfl
  case frameRead index | setupRead index | forceAbort index =>
    obtain rfl : k = 1 := by simp at hlt; omega
    rfl
  all_goals simp at hlt; omega

end Sys2Proof.LinkPath
end

/-! ## The link commands where they are received, and where they are not (R150 to R157) -/

section
namespace Sys2Proof.LinkPath

open Sys2Proof Sys2Proof.Machine

variable {s : State} {i : Instr} {f : List Byte}

/-- Where its frame is not being received, a command does nothing (log 4). -/
theorem exec_of_not_ready (he : encodeFrame i = some f) (h : s.ready i = false) : exec i s = .next s := by
  cases i <;> cases he
  all_goals exact congrArg Host.Outcome.next (if_neg (by simp [h]))

theorem ready_of_absent (hf : s.link.frame = .absent) : s.ready i = false := by
  unfold State.ready
  rw [hf]

theorem exec_status (h : s.ready .status = true) : exec .status s = .next (s.reply .ack s.statusBytes) :=
  congrArg Host.Outcome.next (if_pos h)

theorem exec_frameRead_of_some {n : Byte} {g : Frame} (h : s.ready (.frameRead n) = true)
    (hg : s.frames.stack[n.toNat]? = some g) : exec (.frameRead n) s = .next (s.reply .ack g.bytes) := by
  show execFrameRead n s = _
  rw [execFrameRead, if_pos h, hg]

theorem exec_frameRead_of_none {n : Byte} (h : s.ready (.frameRead n) = true)
    (hg : s.frames.stack[n.toNat]? = none) : exec (.frameRead n) s = .next (s.reply .badItem []) := by
  show execFrameRead n s = _
  rw [execFrameRead, if_pos h, hg]

theorem exec_eventPop_of_nil (h : s.ready .eventPop = true) (hq : s.link.events = []) :
    exec .eventPop s = .next (s.reply .empty []) := by
  show execEventPop s = _
  rw [execEventPop, if_pos h, hq]

theorem exec_eventPop_of_cons {e : EventRecord} {rest : List EventRecord} (h : s.ready .eventPop = true)
    (hq : s.link.events = e :: rest) : exec .eventPop s = .next (s.reply .ack e.bytes true) := by
  show execEventPop s = _
  rw [execEventPop, if_pos h, hq]

/-- The record being shifted out leaves the queue (R157). -/
theorem exec_eventRemoved {d : List Byte} {n : Nat} (hr : s.rstN = true)
    (hf : s.link.frame = .answered d true n) :
    exec .eventRemoved s =
      .next { s with link := { s.link.removeFront with frame := .answered d false (8 * d.length) } } := by
  show execEventRemoved s = _
  rw [execEventRemoved, hf]
  exact congrArg Host.Outcome.next (if_pos hr)

theorem exec_eventRemoved_of_absent (hf : s.link.frame = .absent) : exec .eventRemoved s = .next s := by
  show execEventRemoved s = _
  rw [execEventRemoved, hf]

/-! ### A command does not depend on how much of its frame has been received -/

/-- An answer takes the place of the frame, whatever it was, also where an event is posted before it. -/
theorem reply_post_congr {s t : State} {frame : LinkFrame}
    (h : { s with link.frame := frame } = { t with link.frame := frame }) (b : EventBody) (q : Serial) (r : LinkResult)
    (d : List Byte) : (s.post b q).reply r d = (t.post b q).reply r d := by
  have hpost (l : LinkUnit) (e : EventRecord) (x : LinkFrame) :
      { l.post e with frame := x } = { LinkUnit.post { l with frame := frame } e with frame := x } := by
    unfold LinkUnit.post
    dsimp only
    split <;> rfl
  have hset (u : State) : (u.post b q).reply r d = (State.post { u with link.frame := frame } b q).reply r d :=
    congrArg (fun l => { u with link := l }) (hpost u.link _ _)
  rw [hset s, hset t, h]

/-- A command that is ready in two frames does the same in both (log 12). -/
theorem exec_setFrame (hwf : i.wf = true) (he : encodeFrame i = some f) {frame : LinkFrame} (hs : s.ready i = true)
    (ht : State.ready { s with link.frame := frame } i = true) : exec i { s with link.frame := frame } = exec i s := by
  cases i <;> cases he
  case unknownCommand code =>
    have hnone := operandCount_of_wf hwf
    exact congrArg Host.Outcome.next ((if_pos (by simp [ht, hnone])).trans (if_pos (by simp [hs, hnone])).symm)
  all_goals refine congrArg Host.Outcome.next ((if_pos ht).trans (Eq.trans ?_ (if_pos hs).symm))
  case leaveSetup =>
    dsimp only
    split
    · split
      · rfl
      · refine congrArg State.settle (reply_post_congr (frame := .absent) ?_ ..)
        rfl
    all_goals rfl
  case recover =>
    dsimp only
    split
    · refine congrArg State.settle (reply_post_congr (frame := .absent) ?_ ..)
      rfl
    all_goals rfl
  all_goals rfl

end Sys2Proof.LinkPath
end

/-! ## The rises of SCK that clock a command in (R150) -/

section
namespace Sys2Proof.LinkPath

open Sys2Proof Sys2Proof.Machine

variable {f : List Byte} {n : Nat} {s : State} {i : Instr}

/-! ### The bits of a frame -/

/-- The bits of a byte are received one after another. -/
theorem byteBits_take_succ (b : Byte) {r : Nat} (h : r < 8) :
    (byteBits b).take (r + 1) = (byteBits b).take r ++ [b.getLsbD (7 - r)] := by
  rw [List.take_add_one, List.getElem?_eq_getElem (by simpa using h)]
  simp [byteBits]

/-- The bits received of the byte in hand after `n` bits of a frame. -/
def bitsInHand (f : List Byte) (n : Nat) : List Bool := (byteBits (f.getD (n / 8) 0#8)).take (n % 8)

@[simp] theorem bitsInHand_length : (bitsInHand f n).length = n % 8 := by
  simp only [bitsInHand, List.length_take, byteBits_length]
  omega

theorem bitsInHand_eq_map :
    bitsInHand f n =
      (List.range (n % 8)).map fun j =>
        (f.getD ((8 * (n / 8) + j) / 8) 0#8).getLsbD (7 - (8 * (n / 8) + j) % 8) := by
  rw [bitsInHand, byteBits, ← List.map_take, List.take_range, Nat.min_eq_left (by omega)]
  refine List.map_congr_left fun j hj => ?_
  have hj : j < n % 8 := List.mem_range.1 hj
  rw [show (8 * (n / 8) + j) / 8 = n / 8 by omega, show (8 * (n / 8) + j) % 8 = j by omega]

/-- Bit `n` of a frame, as it is sampled: the next of byte `n / 8`, most significant first. -/
def frameBit (f : List Byte) (n : Nat) : Bool := (f.getD (n / 8) 0#8).getLsbD (7 - n % 8)

theorem bitsInHand_append :
    bitsInHand f n ++ [frameBit f n] = (byteBits (f.getD (n / 8) 0#8)).take (n % 8 + 1) :=
  (byteBits_take_succ _ (Nat.mod_lt n (by decide))).symm

/-- What has been received of a frame is the first part of its bits. -/
theorem received_prefix (h : n < 8 * f.length) : frameBits (f.take (n / 8)) ++ bitsInHand f n <+: frameBits f := by
  have hq : n / 8 < f.length := by omega
  have hf : frameBits f = frameBits (f.take (n / 8)) ++ (byteBits f[n / 8] ++ frameBits (f.drop (n / 8 + 1))) := by
    rw [← frameBits_cons, ← List.drop_eq_getElem_cons hq, ← frameBits_append, List.take_append_drop]
  rw [hf, bitsInHand, List.getD_eq_getElem _ _ hq]
  exact List.prefix_append_right_inj _ |>.2 ((List.take_prefix _ _).trans (List.prefix_append _ _))

/-! ### The frame in progress -/

/-- `s` where `n` bits of the frame `f` have been received. -/
def receivedBits (s : State) (f : List Byte) (n : Nat) : State :=
  { s with link.frame := .receiving (f.take (n / 8)) (bitsInHand f n) }

theorem receivedBits_ready (hr : s.rstN = true) (he : encodeFrame i = some f) (h : n < 8 * f.length) :
    (receivedBits s f n).ready i = true := ready_receiving hr rfl he (received_prefix h)

/-- However much of its frame has been received, the command does what it does at the start of it (log 12). -/
theorem exec_receivedBits (hwf : i.wf = true) (he : encodeFrame i = some f) (hr : s.rstN = true)
    (h : n < 8 * f.length) :
    exec i (receivedBits s f n) = exec i (receivedBits s f 0) :=
  exec_setFrame (s := receivedBits s f 0) hwf he (receivedBits_ready hr he (by omega)) (receivedBits_ready hr he h)

/-! ### A rise of SCK -/

section rise

variable {bytes : List Byte} {bits : List Bool} {sdi : Bool}

theorem receiveBit_within_byte (hl : bits.length < 7) :
    s.receiveBit bytes bits sdi = .next { s with link.frame := .receiving bytes (bits ++ [sdi]) } := if_pos hl

theorem receiveBit_of_some (hl : bits.length = 7)
    (hd : decodeFrame (bytes ++ [byteOfBits (bits ++ [sdi])]) = some i) : s.receiveBit bytes bits sdi = exec i s := by
  rw [State.receiveBit, if_neg (by omega)]
  dsimp only
  rw [hd]

theorem receiveBit_of_none (hl : bits.length = 7) (hd : decodeFrame (bytes ++ [byteOfBits (bits ++ [sdi])]) = none) :
    s.receiveBit bytes bits sdi =
      .next { s with link.frame := .receiving (bytes ++ [byteOfBits (bits ++ [sdi])]) [] } := by
  rw [State.receiveBit, if_neg (by omega)]
  dsimp only
  rw [hd]

end rise

/-- A rise while a frame is taken samples SDI. -/
theorem sckRise_receivedBits (hr : s.rstN = true) (sdi : Bool) :
    (receivedBits s f n).sckRise sdi = (receivedBits s f n).receiveBit (f.take (n / 8)) (bitsInHand f n) sdi :=
  if_pos hr

/-- The eighth bit makes its byte whole. -/
theorem take_append_eighth_bit (h7 : n % 8 = 7) (h : n < 8 * f.length) :
    f.take (n / 8) ++ [byteOfBits (bitsInHand f n ++ [frameBit f n])] = f.take ((n + 1) / 8) := by
  have hq : n / 8 < f.length := by omega
  rw [bitsInHand_append, h7, List.take_of_length_le (l := byteBits _) (by simp), byteOfBits_byteBits,
    List.getD_eq_getElem _ _ hq, List.take_append_getElem hq, show (n + 1) / 8 = n / 8 + 1 by omega]

/-- The next bit of a frame that has more to come leaves all but the frame in progress as it was. -/
theorem sckRise_next_bit (hr : s.rstN = true) (he : encodeFrame i = some f) (h : n + 1 < 8 * f.length) :
    (receivedBits s f n).sckRise (frameBit f n) = .next (receivedBits s f (n + 1)) := by
  rw [sckRise_receivedBits hr]
  by_cases h7 : n % 8 = 7
  · have hbyte := take_append_eighth_bit h7 (by omega : n < 8 * f.length)
    have hnone : decodeFrame (f.take ((n + 1) / 8)) = none := decodeFrame_take he (by omega) (by omega)
    have hbits : bitsInHand f (n + 1) = [] := List.length_eq_zero_iff.1 (by rw [bitsInHand_length]; omega)
    rw [receiveBit_of_none (by rw [bitsInHand_length, h7]) (hbyte.symm ▸ hnone), hbyte, ← hbits]
    rfl
  · have hbits : bitsInHand f n ++ [frameBit f n] = bitsInHand f (n + 1) := by
      rw [bitsInHand_append, bitsInHand, show (n + 1) / 8 = n / 8 by omega, show (n + 1) % 8 = n % 8 + 1 by omega]
    rw [receiveBit_within_byte (by rw [bitsInHand_length]; omega), hbits, show n / 8 = (n + 1) / 8 by omega]
    rfl

/-- The last bit of a frame carries out its command. -/
theorem sckRise_last_bit (hwf : i.wf = true) (hr : s.rstN = true) (he : encodeFrame i = some f)
    (h : n + 1 = 8 * f.length) : (receivedBits s f n).sckRise (frameBit f n) = exec i (receivedBits s f n) := by
  have hbyte := take_append_eighth_bit (f := f) (n := n) (by omega) (by omega)
  rw [List.take_of_length_le (by omega : f.length ≤ (n + 1) / 8)] at hbyte
  rw [sckRise_receivedBits hr]
  refine receiveBit_of_some (by rw [bitsInHand_length]; omega) ?_
  rw [hbyte]
  exact linkFrameDecodesToItsCommand i f hwf he

/-- With no command waiting, a step carries out the edge at the front of the wire. -/
theorem step_edge (hp : s.pending = []) (e : SckEdge) (rest : List SckEdge) :
    step { s with wire := e :: rest } = execEdge e { s with wire := rest } := by
  unfold step
  dsimp only
  rw [hp]

/-- Settles O43: what has been received is `receivedBits`, and the last bit completes the frame that decodes to the
command. -/
theorem framesAreReceivedBitByBit : Obligations.FramesAreReceivedBitByBit := by
  intro i f n rest s hwf he hn hr hp bit received outcome
  have hreceived (k : Nat) : received k = receivedBits { s with wire := rest } f k :=
    congrArg (fun bits => ({ s with wire := rest, link.frame := .receiving (f.take (k / 8)) bits } : State))
      bitsInHand_eq_map.symm
  have hr' : ({ s with wire := rest } : State).rstN = true := hr
  have houtcome : outcome = (received n).sckRise (bit n) := step_edge (s := received n) hp _ rest
  have hstart : exec i (received n) = exec i (received 0) := by
    rw [hreceived, hreceived, exec_receivedBits hwf he hr' hn]
  refine ⟨fun h => ?_, fun h => ?_, ?_, hstart⟩
  · rw [houtcome, hreceived, hreceived]
    exact sckRise_next_bit hr' he h
  · rw [houtcome, ← hstart, hreceived]
    exact sckRise_last_bit hwf hr' he h
  · rw [hreceived]
    exact receivedBits_ready hr' he hn

end Sys2Proof.LinkPath
end

/-! ## STATUS and FRAME_READ (R153, Tables 11.4 and 11.5) -/

section
namespace Sys2Proof.LinkPath

open Sys2Proof Sys2Proof.Machine Sys2Proof.UndoLog

variable {s : State}

/-- A number is read back from as many bytes as it needs. -/
theorem beNat_beBytes_of_lt {n v : Nat} (h : v < 256 ^ n) : beNat (beBytes n v) = v := by
  rw [beNat_beBytes, Nat.mod_eq_of_lt h]

/-- A serial takes two bytes. -/
theorem beNat_serialBytes (q : Serial) : beNat (beBytes 2 q.toNat) = q.toNat :=
  beNat_beBytes_of_lt (q.isLt.trans_le (by norm_num))

/-- A sequence and a tick stamp take four. -/
theorem beNat_wordBytes (q : BitVec 32) : beNat (beBytes 4 q.toNat) = q.toNat :=
  beNat_beBytes_of_lt (q.isLt.trans_le (by norm_num))

/-- A depth fits in its byte. -/
theorem toNat_depthByte {d : Nat} (h : d ≤ 8) : (BitVec.ofNat 8 d).toNat = d := by
  rw [BitVec.toNat_ofNat, Nat.mod_eq_of_lt (by omega)]

/-! ### STATUS (Table 11.4) -/

theorem statusBytes_state : s.statusBytes[0]? = some s.mode.state.code := rfl

theorem statusBytes_depth (h : s.frames.stack.length ≤ 8) :
    s.statusBytes[1]?.map BitVec.toNat = some s.frames.stack.length := congrArg some (toNat_depthByte h)

theorem statusBytes_serial : beNat ((s.statusBytes.drop 2).take 2) = s.topSerial.toNat := beNat_serialBytes _

theorem statusBytes_logCount (h : s.logCount ≤ 65536) : beNat ((s.statusBytes.drop 4).take 3) = s.logCount :=
  beNat_beBytes_of_lt (n := 3) (h.trans_lt (by norm_num))

theorem statusBytes_flags : s.statusBytes[7]? = some s.statusFlags := rfl

theorem topSerial_toNat :
    s.topSerial.toNat = ((s.frames.stack.getLast?.map fun f => f.serial.toNat).getD 0) := by
  unfold State.topSerial State.top
  cases s.frames.stack.getLast? <;> rfl

/-- The bits of the flags byte, lowest first. -/
theorem statusFlags_bits (s : State) :
    (List.range 8).map s.statusFlags.getLsbD =
      [s.cap.sweep.inFlight, s.engine.phase == .quiesce, s.engine.phase == .unwind, s.barrierInFlight, s.ctl.reserved,
        s.log.hold.running, s.link.overrun, false] := by
  unfold State.statusFlags
  generalize s.cap.sweep.inFlight = sweep, s.barrierInFlight = barrier, s.ctl.reserved = reserved,
    s.log.hold.running = hold, s.link.overrun = overrun
  cases s.engine.phase <;> revert sweep barrier reserved hold overrun <;> decide

/-! ### FRAME_READ (Table 11.5) -/

theorem frameBytes_serial (f : Frame) : beNat (f.bytes.take 2) = f.serial.toNat := beNat_serialBytes _

theorem frameBytes_start (f : Frame) : beNat ((f.bytes.drop 2).take 4) = f.start.toNat := beNat_wordBytes _

theorem frameBytes_status (f : Frame) : f.bytes[6]? = some (if f.status = .intact then 0x00#8 else 0x01#8) := by
  obtain ⟨serial, start, status, origin, folded⟩ := f
  cases status <;> rfl

theorem frameBytes_origin (f : Frame) : f.bytes[7]? = some (if f.origin = .control then 0x00#8 else 0x01#8) := by
  obtain ⟨serial, start, status, origin, folded⟩ := f
  cases origin <;> rfl

/-- Settles O44: each field of the answers is read off their bytes. -/
theorem statusAndFrameReadReportTheState : Obligations.StatusAndFrameReadReportTheState := by
  intro s
  refine ⟨fun hready => ⟨s.statusBytes, exec_status hready, rfl, ?_, statusBytes_depth,
    statusBytes_serial.trans topSerial_toNat, statusBytes_logCount, s.statusFlags, statusBytes_flags, ?_⟩,
    fun n hready => ⟨fun f hf => ⟨f.bytes, exec_frameRead_of_some hready hf, rfl, frameBytes_serial f,
      frameBytes_start f, frameBytes_status f, frameBytes_origin f, rfl⟩, fun h =>
      exec_frameRead_of_none hready (List.getElem?_eq_none h)⟩⟩
  · rw [statusBytes_state]
    cases s.mode.state <;> rfl
  · have hbits := statusFlags_bits s
    simp only [List.range, List.range.loop, List.map_cons, List.map_nil, List.cons.injEq, and_true] at hbits
    obtain ⟨hsweep, hquiesce, hunwind, hbarrier, hreserved, hhold, hoverrun, hlast⟩ := hbits
    refine ⟨hsweep, ?_, hbarrier, hreserved, hhold, hoverrun, hlast⟩
    rw [hquiesce, hunwind]
    cases s.engine.phase <;> rfl

end Sys2Proof.LinkPath
end

/-! ## EVENT_POP and the record that it shifts out (R156, R157, Table 11.6) -/

section
namespace Sys2Proof.LinkPath

open Sys2Proof Sys2Proof.Machine Sys2Proof.UndoLog

variable {s : State}

theorem recordBytes_length (e : EventRecord) : e.bytes.length = 13 := by simp [EventRecord.bytes]

theorem recordBytes_stamp (e : EventRecord) : beNat ((e.bytes.drop 1).take 4) = e.stamp.toNat := beNat_wordBytes _

theorem recordBytes_depth {e : EventRecord} (h : e.depth ≤ 8) : e.bytes[5]?.map BitVec.toNat = some e.depth :=
  congrArg some (toNat_depthByte h)

theorem recordBytes_serial (e : EventRecord) : beNat ((e.bytes.drop 6).take 2) = e.serial.toNat := beNat_serialBytes _

/-- Three bytes of a number, most significant first, by division. -/
theorem beBytes_three (v : Nat) :
    beBytes 3 v = [BitVec.ofNat 8 (v / 65536), BitVec.ofNat 8 (v / 256), BitVec.ofNat 8 v] := by
  rw [beBytes_succ, beBytes_succ, beBytes_succ, Nat.div_div_eq_div_mul v 256 256]
  rfl

/-- The kind code and the detail bytes of each kind are those of Table 11.6. -/
theorem code_detail_eq_table116 (b : EventBody) :
    b.code :: (b.detail ++ List.replicate 5 0#8).take 5 = Effect.table116 b := by
  cases b with
  | frameOpened origin => cases origin <;> rfl
  | frameBroken cause => cases cause <;> rfl
  | rollbackDone lost removed applied =>
    simp only [EventBody.detail, beBytes_three]
    rfl
  | faultTaken source action empty =>
    obtain l | _ | _ := source
    · cases l <;> cases action <;> rfl
    all_goals cases action <;> rfl
  | deviceFailed cause => cases cause <;> rfl
  | reservationCancelled cause => cases cause <;> rfl
  | _ => rfl

theorem recordBytes_table116 (e : EventRecord) : e.bytes.take 1 ++ e.bytes.drop 8 = Effect.table116 e.body :=
  code_detail_eq_table116 e.body

/-- Settles O45: the record's bytes are those of its tables, and it leaves the queue from the front, which later events do
not reach. -/
theorem eventPopRemovesWhenShiftedOut : Obligations.EventPopRemovesWhenShiftedOut := by
  intro s hr
  refine ⟨exec_eventPop_of_nil, fun e rest hready hq => ⟨e.bytes, exec_eventPop_of_cons hready hq, recordBytes_length e,
    recordBytes_table116 e, recordBytes_stamp e, recordBytes_depth, recordBytes_serial e⟩, fun d n e rest hf hq =>
    ⟨⟨_, exec_eventRemoved hr hf, ?_, ?_⟩, fun hc => ?_, fun x => ?_⟩⟩
  · rw [LinkUnit.removeFront, hq]
    rfl
  · rw [State.irqN]
    exact congrArg (fun l => l.tail.isEmpty) hq
  · exact congrArg Host.Outcome.next (if_neg (by simp [hc]))
  · exact foldl_post_front ⟨rest, hq⟩ [x]

end Sys2Proof.LinkPath
end

/-! ## The tests of the link commands (R152, R154, R155, R160) -/

section
namespace Sys2Proof.LinkPath

open Sys2Proof Sys2Proof.Machine

variable {n : Byte} {v : ItemValue} {s : State}

/-! ### The setup table -/

theorem setupItem_set_same {setup : List ItemValue} {k : Nat} (h : k < setup.length) (v : ItemValue) :
    setupItem (setup.set k v) k = v := by
  simp [setupItem, List.getD_eq_getElem?_getD, h]

theorem setupItem_set_ne {setup : List ItemValue} {k m : Nat} (h : m ≠ k) (v : ItemValue) :
    setupItem (setup.set k v) m = setupItem setup m := by
  simp [setupItem, List.getD_eq_getElem?_getD, List.getElem?_set_ne h.symm]

/-! ### SETUP_WRITE: state, item and value, in this order (R152) -/

section setupWrite

variable (h : s.ready (.setupWrite n v) = true)
include h

theorem exec_setupWrite_of_state (hs : s.mode.state ≠ .setup) :
    exec (.setupWrite n v) s = .next (s.reply .wrongState []) :=
  congrArg Host.Outcome.next ((if_pos h).trans (if_pos hs))

theorem exec_setupWrite_of_item (hs : s.mode.state = .setup) (hn : 20 ≤ n.toNat) :
    exec (.setupWrite n v) s = .next (s.reply .badItem []) :=
  congrArg Host.Outcome.next ((if_pos h).trans ((if_neg (not_not.2 hs)).trans (if_pos hn)))

theorem exec_setupWrite_of_value (hs : s.mode.state = .setup) (hn : n.toNat < 20) (hv : itemInRange n.toNat v = false) :
    exec (.setupWrite n v) s = .next (s.reply .badValue []) :=
  congrArg Host.Outcome.next
    ((if_pos h).trans ((if_neg (not_not.2 hs)).trans ((if_neg (Nat.not_le.2 hn)).trans (if_pos (by simp [hv])))))

theorem exec_setupWrite_accepted (hs : s.mode.state = .setup) (hn : n.toNat < 20) (hv : itemInRange n.toNat v = true) :
    exec (.setupWrite n v) s = .next (State.reply { s with mode.setup := s.mode.setup.set n.toNat v } .ack []) :=
  congrArg Host.Outcome.next
    ((if_pos h).trans ((if_neg (not_not.2 hs)).trans ((if_neg (Nat.not_le.2 hn)).trans (if_neg (by simp [hv])))))

end setupWrite

/-! ### SETUP_READ, FORCE_ABORT and unknown bytes -/

theorem exec_setupRead_of_item (h : s.ready (.setupRead n) = true) (hn : 20 ≤ n.toNat) :
    exec (.setupRead n) s = .next (s.reply .badItem []) :=
  congrArg Host.Outcome.next ((if_pos h).trans (if_neg (Nat.not_lt.2 hn)))

theorem exec_setupRead (h : s.ready (.setupRead n) = true) (hn : n.toNat < 20) :
    exec (.setupRead n) s = .next (s.reply .ack (itemBytes (setupItem s.mode.setup n.toNat))) :=
  congrArg Host.Outcome.next ((if_pos h).trans (if_pos hn))

/-- The state is tested before the operand (R155). -/
theorem exec_forceAbort_of_state (h : s.ready (.forceAbort n) = true) (hs : s.mode.state ≠ .active) :
    exec (.forceAbort n) s = .next (s.reply .wrongState []) := by
  show execForceAbort n s = _
  rw [execForceAbort, if_pos h]
  cases hstate : s.mode.state with
  | active => exact absurd hstate hs
  | setup => rfl
  | failed => rfl

/-- Operands above 1 code neither top nor all (Table 11.2). -/
theorem forceOperand_eq_none (hn : 1 < n.toNat) : forceOperand n = none := by
  have h0 : n ≠ 0x00#8 := by rintro rfl; exact absurd hn (by decide)
  have h1 : n ≠ 0x01#8 := by rintro rfl; exact absurd hn (by decide)
  rw [forceOperand, if_neg h0, if_neg h1]

theorem exec_forceAbort_of_value (h : s.ready (.forceAbort n) = true) (hs : s.mode.state = .active)
    (hn : 1 < n.toNat) : exec (.forceAbort n) s = .next (s.reply .badValue []) := by
  show execForceAbort n s = _
  rw [execForceAbort, if_pos h, hs, forceOperand_eq_none hn]

theorem exec_unknownCommand (h : s.ready (.unknownCommand n) = true) (hn : operandCount n = none) :
    exec (.unknownCommand n) s = .next (s.reply .badValue []) :=
  congrArg Host.Outcome.next (if_pos (by simp [h, hn]))

/-- Settles O46: each command's tests in their order. -/
theorem linkCommandsTestStateItemAndValue : Obligations.LinkCommandsTestStateItemAndValue := by
  intro n v s hlen answered
  refine ⟨fun h => ⟨exec_setupWrite_of_state h, exec_setupWrite_of_item h, exec_setupWrite_of_value h,
      fun hs hn hv => ⟨_, exec_setupWrite_accepted h hs hn hv, rfl, ?_, ?_, fun m hm => ?_⟩⟩,
    fun h => ⟨exec_setupRead_of_item h, fun hn => ⟨_, exec_setupRead h hn, rfl, beNat_itemBytes _⟩⟩,
    fun h => ⟨exec_forceAbort_of_state h, exec_forceAbort_of_value h⟩, fun h hn => ?_⟩
  · exact (List.length_set ..).trans hlen
  · exact setupItem_set_same (hlen ▸ hn) v
  · exact setupItem_set_ne hm v
  · refine exec_unknownCommand h (operandCount_eq_none (hn.imp_left ?_))
    rintro rfl
    rfl

end Sys2Proof.LinkPath
end

/-! ## Frames on the link and the bits of SDO (R150, R151, R157) -/

section
namespace Sys2Proof.LinkPath

open Sys2Proof Sys2Proof.Machine

variable {s : State}

/-! ### CS_N -/

/-- A fall of CS_N begins a frame, which is taken where RST_N is high (R150). -/
theorem exec_csNFall (hc : s.link.csN = true) :
    exec .csNFall s =
      .next
        { s with
          link := { s.link with csN := false, frame := if s.rstN then .receiving [] [] else .absent, sdo := false } } :=
  congrArg Host.Outcome.next (if_pos hc)

/-- A rise of CS_N ends the frame. -/
theorem exec_csNRise (hc : s.link.csN = false) :
    exec .csNRise s = .next { s with link := { s.link with csN := true, frame := .absent } } :=
  congrArg Host.Outcome.next (if_neg (by simp [hc]))

/-! ### SDO -/

theorem sdoPin_of_csN_high (hc : s.link.csN = true) : s.sdoPin = none := if_neg (by simp [State.sdoDriven, hc])

theorem sdoPin_of_reset (hr : s.rstN = false) : s.sdoPin = none := if_neg (by simp [State.sdoDriven, hr])

theorem sdoPin_of_driven (hc : s.link.csN = false) (hr : s.rstN = true) : s.sdoPin = some s.link.sdo :=
  if_pos (by simp [State.sdoDriven, hc, hr])

/-- A fall of SCK puts the next bit of the frame on SDO, and a state with that bit shows it. -/
theorem step_fall (hp : s.pending = []) (hc : s.link.csN = false) (hr : s.rstN = true) (rest : List SckEdge) {b : Bool}
    (hb : s.link.frame.nextBit = b) :
    ∃ t, step { s with wire := .fall :: rest } = .next t ∧ t.sdoPin = some b ∧
      t = { s with wire := rest, link.sdo := b } := by
  subst hb
  exact ⟨_, step_edge hp .fall rest, sdoPin_of_driven hc hr, rfl⟩

/-! ### The bits of a response -/

section response

variable {d : List Byte} {popping : Bool} {n : Nat}

theorem nextBit_answered (d : List Byte) (popping : Bool) (n : Nat) :
    (LinkFrame.answered d popping n).nextBit =
      if n < 8 * d.length then (d.getD (n / 8) 0#8).getLsbD (7 - n % 8) else false :=
  frameBits_getD d n

theorem sckRise_absent (hf : s.link.frame = .absent) (sdi : Bool) : s.sckRise sdi = .next s := by
  rw [State.sckRise, hf]

/-- A rise while a response is sent does not sample SDI. -/
theorem sckRise_answered (hr : s.rstN = true) (hf : s.link.frame = .answered d popping n) (sdi : Bool) :
    s.sckRise sdi = s.shiftOut d popping n := by
  rw [State.sckRise, hf]
  exact if_pos hr

/-- A rise at the front of the wire where no frame is taken is ignored (R150). -/
theorem step_rise_absent (hp : s.pending = []) (hf : s.link.frame = .absent) (rest : List SckEdge) (sdi : Bool) :
    step { s with wire := .rise sdi :: rest } = .next { s with wire := rest } :=
  (step_edge hp (.rise sdi) rest).trans (sckRise_absent (s := { s with wire := rest }) hf sdi)

theorem step_rise_answered (hp : s.pending = []) (hr : s.rstN = true) (hf : s.link.frame = .answered d popping n)
    (rest : List SckEdge) (sdi : Bool) :
    step { s with wire := .rise sdi :: rest } = State.shiftOut { s with wire := rest } d popping n :=
  (step_edge hp (.rise sdi) rest).trans (sckRise_answered (s := { s with wire := rest }) hr hf sdi)

/-- A bit that is not the last of a popped record is counted, as long as there are bits to send (R151). -/
theorem shiftOut_counts (h : n + 1 = 8 * d.length → popping = false) :
    s.shiftOut d popping n = .next { s with link.frame := .answered d popping (min (n + 1) (8 * d.length)) } := by
  refine if_neg fun hlast => ?_
  obtain ⟨hpop, hn⟩ := Bool.and_eq_true_iff.1 hlast
  exact Bool.false_ne_true ((h (beq_iff_eq.1 hn)).symm.trans hpop)

/-- The last bit of a popped record removes it (R157). -/
theorem shiftOut_last (h : n + 1 = 8 * d.length) : s.shiftOut d true n = exec .eventRemoved s :=
  if_pos (by simp [h])

end response

/-- Settles O47: CS_N frames the commands, and each edge of SCK within a frame does what its stage says. -/
theorem linkFramesBeginAndEndWithCsN : Obligations.LinkFramesBeginAndEndWithCsN := by
  intro s
  refine ⟨fun hc hr => ?_, fun hc hr => ?_, fun hc => ⟨_, exec_csNRise hc, rfl, sdoPin_of_csN_high rfl, ?_⟩,
    sdoPin_of_reset, ?_⟩
  · rw [exec_csNFall hc, hr]
    rfl
  · rw [exec_csNFall hc, hr]
    rfl
  · intro i hi
    have hready := ready_of_absent (s := { s with link := { s.link with csN := true, frame := .absent } }) (i := i) rfl
    simp only [List.mem_cons, List.not_mem_nil, or_false] at hi
    obtain rfl | rfl | rfl | rfl | rfl | rfl | rfl | rfl | rfl | rfl | rfl := hi
    case inr.inr.inl => exact exec_eventRemoved_of_absent rfl
    all_goals exact exec_of_not_ready rfl hready
  · intro hp hr hc rest shows rises
    have hshows {b : Bool} : s.link.frame.nextBit = b → shows b := step_fall hp hc hr rest
    refine ⟨fun bytes bits hf => hshows (hf ▸ rfl), fun hf sdi => step_rise_absent hp hf rest sdi,
      fun d popping n hf => ?_⟩
    have hbit : s.link.frame.nextBit = _ := hf ▸ nextBit_answered d popping n
    have hrise (sdi : Bool) : rises sdi = State.shiftOut { s with wire := rest } d popping n :=
      step_rise_answered hp hr hf rest sdi
    refine ⟨fun h => hshows (hbit.trans (if_pos h)), fun h => hshows (hbit.trans (if_neg (by omega))), fun sdi =>
      ⟨fun h => ?_, fun h hpop => ?_, fun h => ?_⟩⟩
    · rw [hrise, shiftOut_counts fun hlast => (h.resolve_left (by omega)).2, Nat.min_eq_left (by omega)]
    · subst hpop
      exact (hrise sdi).trans (shiftOut_last h)
    · rw [hrise, shiftOut_counts (by omega), Nat.min_eq_right (by omega), ← h, ← hf]

end Sys2Proof.LinkPath
end

/-! ## The values in range of each setup item (R160, Table 11.7) -/

section
namespace Sys2Proof.LinkPath

open Sys2Proof Sys2Proof.Machine Sys2Proof.UndoLog

variable {v : ItemValue}

/-! ### The two halves of a value and their bytes -/

theorem itemByte_toNat (v : ItemValue) (k : Nat) : (itemByte v k).toNat = v.toNat / 2 ^ (8 * (5 - k)) % 256 := by
  rw [itemByte, BitVec.extractLsb'_toNat, Nat.shiftRight_eq_div_pow]

/-- Bytes 0 and 1, most significant first, are the upper half. -/
theorem itemHigh_toNat (v : ItemValue) : (itemHigh v).toNat = (itemByte v 0).toNat * 256 + (itemByte v 1).toNat := by
  rw [itemHigh, BitVec.extractLsb'_toNat, Nat.shiftRight_eq_div_pow, itemByte_toNat, itemByte_toNat]
  omega

/-- Bytes 2 to 5, most significant first, are the lower half. -/
theorem beNat_lowBytes (v : ItemValue) :
    beNat [itemByte v 2, itemByte v 3, itemByte v 4, itemByte v 5] = (itemLow v).toNat :=
  (beNat_beBytes 4 v.toNat).trans (BitVec.extractLsb'_toNat 0 32 v).symm

theorem itemHigh_eq_zero_iff : itemHigh v = 0#16 ↔ (itemByte v 0).toNat = 0 ∧ (itemByte v 1).toNat = 0 := by
  rw [BitVec.toNat_eq, itemHigh_toNat, BitVec.toNat_ofNat]
  omega

/-- Bits 14 to 10 of the upper half are bits 6 to 2 of byte 0. -/
theorem reservedBits_toNat (v : ItemValue) :
    ((itemHigh v).extractLsb' 10 5).toNat = (itemByte v 0).toNat / 4 % 32 := by
  rw [BitVec.extractLsb'_toNat, Nat.shiftRight_eq_div_pow, itemHigh_toNat]
  have hbyte := (itemByte v 1).isLt
  omega

/-- Bits 9 to 0 of the upper half are the two low bits of byte 0 above byte 1. -/
theorem pageBits_toNat (v : ItemValue) :
    ((itemHigh v).extractLsb' 0 10).toNat = (itemByte v 0).toNat % 4 * 256 + (itemByte v 1).toNat := by
  rw [BitVec.extractLsb'_toNat, Nat.shiftRight_zero, itemHigh_toNat]
  have hbyte := (itemByte v 1).isLt
  omega

/-! ### The tests on the kinds of item -/

theorem windowInRange_iff :
    windowInRange v = true ↔
      (itemByte v 0).toNat / 4 % 32 = 0 ∧ 1 ≤ (itemByte v 0).toNat % 4 * 256 + (itemByte v 1).toNat ∧
        (itemByte v 0).toNat % 4 * 256 + (itemByte v 1).toNat ≤ 512 ∧ (itemLow v).toNat ≤ 2 ^ 28 - 1 := by
  have hreserved : (itemHigh v).extractLsb' 10 5 = 0#5 ↔ (itemByte v 0).toNat / 4 % 32 = 0 := by
    rw [BitVec.toNat_eq, reservedBits_toNat, BitVec.toNat_ofNat]
  simp only [windowInRange, Bool.and_eq_true, beq_iff_eq, decide_eq_true_eq, hreserved, pageBits_toNat, and_assoc]
  omega

theorem numberInRange_iff {lo hi : Nat} :
    numberInRange lo hi v = true ↔
      (itemByte v 0).toNat = 0 ∧ (itemByte v 1).toNat = 0 ∧ lo ≤ (itemLow v).toNat ∧ (itemLow v).toNat ≤ hi := by
  simp only [numberInRange, Bool.and_eq_true, beq_iff_eq, decide_eq_true_eq, itemHigh_eq_zero_iff, and_assoc]

/-- A number that may be 0 is bounded from above alone. -/
theorem numberInRange_zero_iff {hi : Nat} :
    numberInRange 0 hi v = true ↔
      (itemByte v 0).toNat = 0 ∧ (itemByte v 1).toNat = 0 ∧ (itemLow v).toNat ≤ hi := by
  simp only [numberInRange_iff, Nat.zero_le, true_and]

theorem codeInRange_iff {hi : Nat} :
    codeInRange hi v = true ↔
      (itemByte v 0).toNat ≤ hi ∧ (itemByte v 1).toNat = 0 ∧ (itemLow v).toNat = 0 := by
  simp only [codeInRange, Bool.and_eq_true, beq_iff_eq, decide_eq_true_eq, BitVec.toNat_eq, BitVec.toNat_ofNat,
    Nat.zero_mod, and_assoc]

theorem policyInRange_iff :
    policyInRange v = true ↔
      (itemByte v 0).toNat ≤ 1 ∧ 1 ≤ (itemByte v 1).toNat ∧ (itemLow v).toNat = 0 := by
  simp only [policyInRange, Bool.and_eq_true, beq_iff_eq, decide_eq_true_eq, BitVec.toNat_eq, BitVec.toNat_ofNat,
    Nat.zero_mod, and_assoc]

/-! ### Which test an item number selects -/

section itemNumber

variable {n : Nat}

theorem itemInRange_window (h : n < 8) (v : ItemValue) : itemInRange n v = windowInRange v := if_pos h

/-- Items 0x0F to 0x13 hold the actions of the causes. -/
theorem itemInRange_action (hlo : 0x0F ≤ n) (hhi : n ≤ 0x13) (v : ItemValue) : itemInRange n v = codeInRange 3 v := by
  interval_cases n <;> rfl

/-- No value is in range for an item that Table 11.7 does not have. -/
theorem itemInRange_absent (h : 0x13 < n) (v : ItemValue) : itemInRange n v = false := by
  unfold itemInRange
  rw [if_neg (by omega)]
  split
  case h_13 => rfl
  all_goals omega

end itemNumber

/-- Settles O6, item by item: the number selects a test, and the test is a condition on the bytes of the value. -/
theorem setupItemRangesByByte : Obligations.SetupItemRangesByByte := by
  intro n v
  simp only [beNat_lowBytes]
  refine ⟨fun h => ?window, ?logBase, ?capacity, ?logPolicy, ?code, ?divisor, ?deadline, fun h => ?action,
    fun h => ?absent⟩
  case window => rw [itemInRange_window h]; exact windowInRange_iff
  case logBase => rintro rfl; exact numberInRange_zero_iff
  case capacity => rintro rfl; exact numberInRange_zero_iff
  case logPolicy => rintro rfl; exact policyInRange_iff
  case code => rintro (rfl | rfl) <;> exact codeInRange_iff
  case divisor => rintro rfl; exact numberInRange_iff
  case deadline => rintro rfl; exact numberInRange_zero_iff
  case action => rw [itemInRange_action h.1 h.2]; exact codeInRange_iff
  case absent => exact itemInRange_absent h v

end Sys2Proof.LinkPath
end

/-! ## One step: the command at the front of the queue, an edge of SCK, or idling (logs 3 and 12) -/

section
namespace Sys2Proof.FrontCommand

open Sys2Proof Sys2Proof.Machine Sys2Proof.LinkPath

variable {s : State}

/-- A waiting command comes before any edge on the wire. -/
theorem step_command {c : Instr} {rest : List Instr} (hp : s.pending = c :: rest) :
    step s = exec c { s with pending := rest } := by
  unfold step
  rw [hp]

/-- `step_edge`, for a state whose wire is known by an equation. -/
theorem step_front_edge {e : SckEdge} {rest : List SckEdge} (hp : s.pending = []) (hw : s.wire = e :: rest) :
    step s = execEdge e { s with wire := rest } := by
  have hedge := step_edge hp e rest
  rwa [← hw] at hedge

theorem step_idle (hp : s.pending = []) (hw : s.wire = []) : step s = .next s := by
  unfold step
  rw [hp, hw]

/-- Settles O1, by what stands at the front of the queue and of the wire. -/
theorem stepRunsFrontCommand : Obligations.StepRunsFrontCommand := fun _ =>
  ⟨fun _ _ hp => step_command hp, fun _ _ hp hw => step_front_edge hp hw, step_idle⟩

end Sys2Proof.FrontCommand
end

/-! ## The serial choice (R3)

The candidates run through 1 to 65535 and begin again at 1 (`candidate_eq`), so that fewer than 65535 serials in use leave one
to choose (`exists_chosen`), and the walk of `State.chooseSerial` ends at the first (`chooseSerial_of_chosen`). -/

section
namespace Sys2Proof.FramePath

open Sys2Proof Sys2Proof.Machine

variable {s t : State}

/-! ### The candidates -/

theorem candidate_eq (s : State) (n : Nat) : Effect.candidate s n = (s.frames.counter.toNat + n) % 65535 + 1 := by
  have hcounter := s.frames.counter.isLt
  induction n with
  | zero =>
    unfold Effect.candidate
    split <;> omega
  | succ n ih =>
    unfold Effect.candidate
    rw [ih]
    split <;> omega

/-- The candidate as a serial. -/
def candidateSerial (s : State) (n : Nat) : Serial := BitVec.ofNat 16 (Effect.candidate s n)

theorem candidateSerial_toNat (s : State) (n : Nat) : (candidateSerial s n).toNat = Effect.candidate s n := by
  have h := candidate_eq s n
  rw [candidateSerial, BitVec.toNat_ofNat, Nat.mod_eq_of_lt (by omega)]

/-- Within one round of the counter no candidate comes twice. -/
theorem candidateSerial_inj {m n : Nat} (hm : m < 65535) (hn : n < 65535)
    (h : candidateSerial s m = candidateSerial s n) : m = n := by
  have h' := congrArg BitVec.toNat h
  rw [candidateSerial_toNat, candidateSerial_toNat, candidate_eq, candidate_eq] at h'
  omega

/-- The candidates after one round are those of the round before. -/
theorem candidateSerial_add_round (s : State) (n : Nat) : candidateSerial s (n + 65535) = candidateSerial s n := by
  refine BitVec.eq_of_toNat_eq ?_
  rw [candidateSerial_toNat, candidateSerial_toNat, candidate_eq, candidate_eq]
  omega

theorem advanceSerial_of_toNat {c d : Serial} (h : d.toNat = if c.toNat = 65535 then 1 else c.toNat + 1) :
    advanceSerial c = (d, decide (c.toNat = 65535)) := by
  have hc : c = 65535#16 ↔ c.toNat = 65535 := ⟨fun hc => hc ▸ rfl, fun hc => BitVec.eq_of_toNat_eq hc⟩
  have hlt := c.isLt
  unfold advanceSerial
  by_cases hlast : c.toNat = 65535
  · rw [if_pos hlast] at h
    obtain rfl : d = 1#16 := BitVec.eq_of_toNat_eq h
    rw [if_pos (hc.2 hlast), decide_eq_true hlast]
  · have hnext : d = c + 1#16 := by
      refine BitVec.eq_of_toNat_eq ?_
      rw [h, if_neg hlast, BitVec.toNat_add, BitVec.toNat_ofNat]
      omega
    rw [if_neg (mt hc.1 hlast), decide_eq_false hlast, hnext]

/-- Whether the walk to candidate number `n` moves from 65535 to 1. -/
def wrapsBefore (s : State) : Nat → Bool
  | 0 => decide (s.frames.counter.toNat = 65535)
  | n + 1 => wrapsBefore s n || decide (Effect.candidate s n = 65535)

theorem wrapsBefore_iff (s : State) (n : Nat) :
    wrapsBefore s n = true ↔ s.frames.counter = 65535#16 ∨ ∃ m < n, Effect.candidate s m = 65535 := by
  induction n with
  | zero =>
    have hc : s.frames.counter = 65535#16 ↔ s.frames.counter.toNat = 65535 :=
      ⟨fun hc => hc ▸ rfl, fun hc => BitVec.eq_of_toNat_eq hc⟩
    simp [wrapsBefore, hc]
  | succ n ih => simp only [wrapsBefore, Bool.or_eq_true, ih, decide_eq_true_eq, Nat.lt_succ_iff_lt_or_eq, or_and_right,
      exists_or, exists_eq_left, or_assoc]

theorem advanceSerial_counter (s : State) : advanceSerial s.frames.counter = (candidateSerial s 0, wrapsBefore s 0) :=
  advanceSerial_of_toNat (candidateSerial_toNat s 0)

theorem advanceSerial_candidate (s : State) (n : Nat) :
    advanceSerial (candidateSerial s n) = (candidateSerial s (n + 1), decide (Effect.candidate s n = 65535)) := by
  rw [advanceSerial_of_toNat (d := candidateSerial s (n + 1)), candidateSerial_toNat]
  rw [candidateSerial_toNat, candidateSerial_toNat]
  rfl

/-! ### The walk -/

/-- The walk from candidate `i` ends at the first candidate not in use, where its bound reaches so far. -/
theorem walkSerial_eq {used : List Serial} {n i k : Nat} (hn : n ≤ k)
    (hused : ∀ m, i ≤ m → m < i + n → candidateSerial s m ∈ used) (hfree : candidateSerial s (i + n) ∉ used) :
    walkSerial used k (candidateSerial s i, wrapsBefore s i) = (candidateSerial s (i + n), wrapsBefore s (i + n)) := by
  induction n generalizing i k with
  | zero =>
    cases k with
    | zero => rfl
    | succ k => rw [walkSerial, if_neg (by simpa using hfree), Nat.add_zero]
  | succ n ih =>
    obtain ⟨k, rfl⟩ : ∃ j, k = j + 1 := ⟨k - 1, by omega⟩
    have hnext : i + (n + 1) = i + 1 + n := by omega
    rw [walkSerial, if_pos (by simpa using hused i le_rfl (by omega)), advanceSerial_candidate]
    rw [hnext] at hfree ⊢
    exact ih (by omega) (fun m hi hm => hused m (by omega) (by omega)) hfree

/-- Within one round there are no more candidates in use than serials in use. -/
theorem le_length_of_used {used : List Serial} {n : Nat} (hn : n ≤ 65535)
    (hused : ∀ m < n, candidateSerial s m ∈ used) : n ≤ used.length := by
  have hnodup : ((List.range n).map (candidateSerial s)).Nodup := by
    refine List.Nodup.map_on (fun a ha b hb hab => ?_) List.nodup_range
    rw [List.mem_range] at ha hb
    exact candidateSerial_inj (by omega) (by omega) hab
  have hsub : (List.range n).map (candidateSerial s) ⊆ used := fun c hc => by
    obtain ⟨m, hm, rfl⟩ := List.mem_map.1 hc
    exact hused m (List.mem_range.1 hm)
  simpa using (hnodup.subperm hsub).length_le

/-- The first candidate not in use comes within one round. -/
theorem first_free_in_round {used : List Serial} {n : Nat} (hused : ∀ m < n, candidateSerial s m ∈ used)
    (hfree : candidateSerial s n ∉ used) : n ≤ 65535 := by
  by_contra hn
  refine hfree ?_
  rw [← Nat.sub_add_cancel (show 65535 ≤ n by omega), candidateSerial_add_round]
  exact hused _ (by omega)

/-! ### The choice -/

/-- The choice of the model is the choice of R3. -/
theorem chooseSerial_of_chosen {n : Nat} {c : Serial} {wraps : Bool} (h : Effect.Chosen s n c wraps) :
    s.chooseSerial = (c, wraps) := by
  obtain ⟨hc, hfree, hused, hwraps⟩ := h
  obtain rfl : c = candidateSerial s n := BitVec.eq_of_toNat_eq (hc.trans (candidateSerial_toNat s n).symm)
  obtain rfl : wraps = wrapsBefore s n := Bool.eq_iff_iff.2 (hwraps.trans (wrapsBefore_iff s n).symm)
  have hbound : n ≤ s.frames.usedSerials.length := le_length_of_used (first_free_in_round hused hfree) hused
  have hwalk := walkSerial_eq (i := 0) hbound (fun m _ hm => hused m (by omega)) (by rwa [Nat.zero_add])
  rw [Nat.zero_add] at hwalk
  unfold State.chooseSerial
  rw [advanceSerial_counter]
  exact hwalk

/-- Where fewer than 65535 serials are in use, a choice can be made, and it comes no later than their number. -/
theorem exists_chosen (h : s.frames.usedSerials.length < 65535) :
    ∃ n ≤ s.frames.usedSerials.length, Effect.Chosen s n (candidateSerial s n) (wrapsBefore s n) := by
  have hexists : ∃ n, n ≤ s.frames.usedSerials.length ∧ candidateSerial s n ∉ s.frames.usedSerials := by
    by_contra hall
    push Not at hall
    have := le_length_of_used (n := s.frames.usedSerials.length + 1) (by omega)
      fun m hm => hall m (Nat.lt_succ_iff.1 hm)
    omega
  classical
  obtain ⟨hle, hfree⟩ := Nat.find_spec hexists
  refine ⟨Nat.find hexists, hle, candidateSerial_toNat s _, hfree, fun m hm => ?_, wrapsBefore_iff s _⟩
  by_contra hm'
  exact Nat.find_min hexists hm ⟨by omega, hm'⟩

/-- No serial is 0. -/
theorem chosen_ne_zero {n : Nat} {c : Serial} {wraps : Bool} (h : Effect.Chosen s n c wraps) : c ≠ 0#16 := by
  rintro rfl
  have hc := h.1
  rw [candidate_eq, BitVec.toNat_ofNat] at hc
  omega

/-- The choice of the model is not in use and not 0. -/
theorem chooseSerial_fresh (h : s.frames.usedSerials.length < 65535) :
    s.chooseSerial.1 ∉ s.frames.usedSerials ∧ s.chooseSerial.1 ≠ 0#16 := by
  obtain ⟨n, -, hn⟩ := exists_chosen h
  have ⟨_, hfree, _, _⟩ := hn
  rw [chooseSerial_of_chosen hn]
  exact ⟨hfree, chosen_ne_zero hn⟩

/-- The choice is read off the Frame Stack. -/
theorem chooseSerial_congr (h : t.frames.stack = s.frames.stack) (hc : t.frames.counter = s.frames.counter)
    (hh : t.frames.held = s.frames.held) : t.chooseSerial = s.chooseSerial := by
  unfold State.chooseSerial FrameStack.usedSerials
  rw [h, hc, hh]

end Sys2Proof.FramePath
end

/-! ## What an event leaves of the operating state, the frames and the rollback

`Untouched` says of most parts of an event that they leave all that the invariants of the Frame Stack and of the operating
state speak of. The parts that do not leave it are dealt with in the two sections that follow. -/

section
namespace Sys2Proof.FrameDiscipline

open Sys2Proof Sys2Proof.Machine Sys2Proof.UndoLog

/-- The fields that the two invariants speak of, but for the barrier and the quiesce set. -/
def fixedPart (s : State) : OpState × Seq × Seq × List Frame × List Serial × RollbackEngine × Bool :=
  (s.mode.state, s.log.head, s.log.tail, s.frames.stack, s.frames.held, { s.engine with quiesce := [] }, s.ctl.reserved)

/-- Those fields are left, no barrier begins, and an empty quiesce set stays empty. -/
structure Untouched (s t : State) : Prop where
  fixed : fixedPart t = fixedPart s
  barrier : s.frames.barrier = none → t.frames.barrier = none
  quiesce : s.engine.quiesce = [] → t.engine.quiesce = []

namespace Untouched

variable {s t u : State}

theorem refl (s : State) : Untouched s s := ⟨rfl, id, id⟩

theorem trans (h : Untouched s t) (k : Untouched t u) : Untouched s u :=
  ⟨k.fixed.trans h.fixed, fun hs => k.barrier (h.barrier hs), fun hs => k.quiesce (h.quiesce hs)⟩

theorem foldl {α : Type} {f : State → α → State} (hf : ∀ s a, Untouched s (f s a)) :
    ∀ (l : List α) (s : State), Untouched s (l.foldl f s)
  | [], s => refl s
  | a :: l, s => (hf s a).trans (foldl hf l (f s a))

theorem state (h : Untouched s t) : t.mode.state = s.mode.state := congrArg (·.1) h.fixed

theorem head (h : Untouched s t) : t.log.head = s.log.head := congrArg (·.2.1) h.fixed

theorem tail (h : Untouched s t) : t.log.tail = s.log.tail := congrArg (·.2.2.1) h.fixed

theorem stack (h : Untouched s t) : t.frames.stack = s.frames.stack := congrArg (·.2.2.2.1) h.fixed

theorem held (h : Untouched s t) : t.frames.held = s.frames.held := congrArg (·.2.2.2.2.1) h.fixed

theorem phase (h : Untouched s t) : t.engine.phase = s.engine.phase := congrArg (·.2.2.2.2.2.1.phase) h.fixed

theorem targetDepth (h : Untouched s t) : t.targetDepth = s.targetDepth :=
  congrArg (·.2.2.2.2.2.1.target.getD 0) h.fixed

theorem reserved (h : Untouched s t) : t.ctl.reserved = s.ctl.reserved := congrArg (·.2.2.2.2.2.2) h.fixed

/-- An engine at its IDLE values stays there. -/
theorem engineIdle (h : Untouched s t) (hs : s.engine = engineIdle) : t.engine = engineIdle := by
  have hquiesce := h.quiesce (by rw [hs]; rfl)
  have hfixed : { t.engine with quiesce := [] } = { s.engine with quiesce := [] } := congrArg (·.2.2.2.2.2.1) h.fixed
  rw [hs] at hfixed
  rw [show t.engine = { t.engine with quiesce := [] } by rw [← hquiesce], hfixed]
  rfl

end Untouched

/-! ### Captures and the Upstream Port -/

section untouched

variable (s : State)

theorem post_untouched (b : EventBody) (q : Serial) : Untouched s (s.post b q) := ⟨rfl, id, id⟩

theorem finish_untouched (t : Tag) (c : UpCode) (d : List Beat) : Untouched s (s.finish t c d) where
  fixed := rfl
  barrier hs := by rw [State.finish_frames, hs]; rfl
  quiesce hs := by rw [State.finish_engine, hs]; rfl

theorem issue_untouched (e : Txn) : Untouched s (s.issue e) where
  fixed := rfl
  barrier hs := by rw [State.issue_frames, hs]; rfl
  quiesce := id

theorem answer_untouched (a : CtlAnswer) : Untouched s (s.answer a) where
  fixed := by
    have h : (s.answer a).ctl.reserved = s.ctl.reserved := ctlAnswer_reserved s.ctl a
    unfold fixedPart
    rw [h]
    rfl
  barrier := id
  quiesce := id

theorem judge_untouched (e : Txn) : Untouched s (s.judge e) := by
  unfold State.judge
  split
  · exact ⟨rfl, id, id⟩
  · exact issue_untouched s e

theorem proceed_untouched (e : Txn) : Untouched s (s.proceed e) := by
  unfold State.proceed
  split
  · exact judge_untouched s e
  · exact issue_untouched s e

theorem rejudge_untouched : Untouched s s.rejudge := by
  have hone (s : State) (t : Tag) : Untouched s (s.rejudgeOne t) := by
    unfold State.rejudgeOne
    repeat' split
    · exact .refl s
    · exact .refl s
    · exact (issue_untouched s _).trans ⟨rfl, id, id⟩
  have h := Untouched.foldl hone s.cap.waitList s
  unfold State.rejudge
  dsimp only
  split
  · exact h.trans ⟨rfl, id, id⟩
  · exact h

/-- A reclaiming event moves the tail, and touches nothing else of the fields. -/
theorem reclaim_untouched (q : Seq) : Untouched { s with log.tail := q } (s.reclaim q) := by
  unfold State.reclaim
  dsimp only
  split <;> exact ⟨rfl, id, id⟩

theorem wake_untouched : Untouched s s.wake := by
  refine .foldl (fun s t => ?_) _ s
  unfold State.wakeOne
  repeat' split
  · exact .refl s
  · exact proceed_untouched s _
  · exact .refl s

theorem release_untouched (c : HoldCause) : Untouched s (s.release c) := by
  refine .foldl (fun s t => ?_) _ s
  unfold State.releaseOne
  repeat' split
  · exact .refl s
  · exact proceed_untouched s _
  · exact ⟨rfl, id, id⟩

theorem enroll_untouched (e : Txn) : Untouched s (s.enroll e) := by
  have hadded : Untouched s { s with up.txns := s.up.txns ++ [e], up.nextAge := s.up.nextAge + 1 } := ⟨rfl, id, id⟩
  unfold State.enroll
  dsimp only
  repeat' split
  · exact ⟨rfl, id, id⟩
  · exact ⟨rfl, id, id⟩
  · exact hadded.trans (proceed_untouched _ e)
  · exact hadded

theorem acceptPresented_untouched : Untouched s s.acceptPresented := by
  have haccept (s : State) (r : Request) : Untouched s (s.accept r) := by
    unfold State.accept
    repeat' split
    · exact ⟨rfl, id, id⟩
    · exact ⟨rfl, id, id⟩
    · exact enroll_untouched s _
    · exact ⟨rfl, id, id⟩
    all_goals exact enroll_untouched s _
  unfold State.acceptPresented
  repeat' split
  · exact .refl s
  · exact .trans (t := { s with up.presented := none }) ⟨rfl, id, id⟩ (haccept _ _)
  · exact .refl s

theorem answerPassthrough_untouched (t : Tag) (resp : MemResponse) : Untouched s (s.answerPassthrough t resp) := by
  unfold State.answerPassthrough
  repeat' split
  · exact .refl s
  all_goals exact finish_untouched s _ _ _

theorem completeCapture_untouched (n : Nat) (resp : LineResponse) : Untouched s (s.completeCapture n resp) := by
  have hcomplete (s : State) (q : Seq) (x : Content) (m : CaptureMap) :
      Untouched s { s with log := s.log.complete q x, cap.map := m } := ⟨rfl, id, id⟩
  have hok (s : State) (c : CaptureSlot) (d : LineData) : Untouched s (s.captureOk c d) := by
    unfold State.captureOk
    dsimp only
    split <;> split
    · exact (hcomplete s _ _ _).trans (issue_untouched _ _)
    · exact issue_untouched s _
    · exact hcomplete s _ _ _
    · exact .refl s
  have herr (s : State) (c : CaptureSlot) : Untouched s (s.captureErr c) := by
    unfold State.captureErr
    dsimp only
    refine .trans ?_ (post_untouched _ _ _)
    split <;> split
    · exact (hcomplete s _ _ s.cap.map).trans (finish_untouched _ _ _ _)
    · exact finish_untouched s _ _ _
    · exact hcomplete s _ _ s.cap.map
    · exact .refl s
  have hfreed : Untouched s { s with cap.slots := s.cap.slots.set n none } := ⟨rfl, id, id⟩
  unfold State.completeCapture
  dsimp only
  repeat' split
  · exact .refl s
  · exact hfreed
  · exact hfreed.trans (hok _ _ _)
  · exact hfreed.trans (herr _ _)

/-! ### The log writer, the arbiter and the Control Port -/

theorem startWriter_untouched : Untouched s s.startWriter := by
  unfold State.startWriter
  split
  · exact ⟨rfl, id, id⟩
  · exact .refl s

theorem arbitrate_untouched : Untouched s s.arbitrate := by
  obtain ⟨hmode, -, -, -, -, -, hlog, hframes, hengine, hctl, -, -, -, -, -, -⟩ := arbitrate_keeps s
  refine ⟨?_, fun hs => by rwa [hframes], fun hs => by rwa [hengine]⟩
  unfold fixedPart
  rw [hmode, hlog, hframes, hengine, hctl]

theorem giveOwed_untouched (p : Bool) : Untouched s (s.giveOwed p) := by
  unfold State.giveOwed
  split
  · exact .refl s
  · exact answer_untouched s _
  · exact answer_untouched s _

theorem reloadIfFrames_untouched : Untouched s s.reloadIfFrames := by
  unfold State.reloadIfFrames
  split
  · exact .refl s
  · exact ⟨rfl, id, id⟩

theorem absorb_untouched (e : Txn) : Untouched s (s.absorb e) := by
  unfold State.absorb
  split
  · exact finish_untouched s _ _ _
  · exact ⟨rfl, id, id⟩

/-- An OPEN that is not carried out may leave the reservation behind, and touches nothing else of the fields. -/
theorem reserveOrBusy_untouched : ∃ b, Untouched { s with ctl.reserved := b } s.reserveOrBusy := by
  unfold State.reserveOrBusy
  split
  · exact ⟨true, answer_untouched { s with ctl.reserved := true } _⟩
  · exact ⟨s.ctl.reserved, answer_untouched s _⟩

theorem abandonBarrier_untouched : ∃ b, Untouched { s with ctl.reserved := b } s.abandonBarrier := by
  unfold State.abandonBarrier
  split
  · exact ⟨s.ctl.reserved, .refl s⟩
  · obtain ⟨b, h⟩ := reserveOrBusy_untouched { s with frames.barrier := none }
    have hcleared : Untouched { s with ctl.reserved := b } { s with frames.barrier := none, ctl.reserved := b } :=
      ⟨rfl, fun _ => rfl, id⟩
    exact ⟨b, hcleared.trans h⟩

/-- The start of a rollback: the engine leaves IDLE, and an OPEN whose barrier is abandoned may become the reservation. -/
theorem startRollback_untouched (kind : AbortKind) (fromControl : Bool) :
    ∃ b, Untouched { s with engine := s.startEngine kind fromControl, ctl.reserved := b }
      (s.startRollback kind fromControl) := by
  let v : State := ({ s with engine := s.startEngine kind fromControl } : State).stopHold.stopDeadline
  obtain ⟨b, h⟩ := abandonBarrier_untouched v
  have hstopped : Untouched { s with engine := s.startEngine kind fromControl, ctl.reserved := b }
      { v with ctl.reserved := b } := ⟨rfl, id, id⟩
  have hbegun := hstopped.trans h
  unfold State.startRollback
  dsimp only
  split
  · exact ⟨b, (hbegun.trans (.foldl absorb_untouched _ _)).trans ⟨rfl, id, id⟩⟩
  · exact ⟨b, hbegun.trans (release_untouched _ _)⟩

end untouched

/-! ### The parts that move frames -/

section frames

variable (s : State)

/-- The lowest INTACT frame becomes BROKEN, where there is one (R15). -/
theorem breakLowest_untouched (cause : BreakCause) :
    s.breakLowest cause = s ∨
      ∃ lows g above q, s.frames.stack = lows ++ g :: above ∧ (∀ f ∈ lows, f.status = .broken) ∧ g.status = .intact ∧
        Untouched { s with frames.stack := lows ++ { g with status := .broken } :: above, log.tail := q }
          (s.breakLowest cause) := by
  unfold State.breakLowest
  split
  · exact .inl rfl
  · rename_i g above hsplit
    have hstack := List.takeWhile_append_dropWhile (p := fun x : Frame => x.status == .broken) (l := s.frames.stack)
    have hg := List.head?_dropWhile_not (fun x : Frame => x.status == .broken) s.frames.stack
    rw [hsplit] at hstack hg
    have hintact : g.status = .intact := by
      cases hs : g.status with
      | intact => rfl
      | broken => simp [hs] at hg
    refine .inr ⟨_, g, above, (above.head?.map Frame.start).getD s.log.head, hstack.symm,
      fun f hf => by simpa using List.mem_takeWhile_imp hf, hintact, ?_⟩
    dsimp only
    have hbroken := (reclaim_untouched
      { s with
        frames.stack := s.frames.stack.takeWhile (·.status == .broken) ++ { g with status := .broken } :: above }
      ((above.head?.map Frame.start).getD s.log.head)).trans (post_untouched _ (.frameBroken cause) g.serial)
    split
    · exact hbroken.trans (rejudge_untouched _)
    · exact hbroken

/-- A grant moves the head up, if it is made (R47). -/
theorem grantOldest_untouched : ∃ q, Untouched { s with log.head := q } s.grantOldest := by
  unfold State.grantOldest
  repeat' split
  · exact ⟨s.log.head, .refl s⟩
  · exact ⟨s.log.head + 1, ⟨rfl, id, id⟩⟩
  · exact ⟨s.log.head, .refl s⟩

/-- The frame that a push adds (R8). -/
def newFrame (s : State) (c : Serial) (o : FrameOrigin) : Frame :=
  { serial := c, start := s.log.head, status := .intact, origin := o, folded := false }

theorem push_untouched (c : Serial × Bool) (o : FrameOrigin) :
    Untouched
      { s with
        frames.stack := s.frames.stack ++ [newFrame s c.1 o]
        frames.held := if c.2 then s.frames.stack.map Frame.serial else s.frames.held }
      (s.push c o) := by
  unfold State.push
  dsimp only
  split <;> exact ⟨rfl, id, id⟩

/-- A fold of two frames (R10), which may move the tail (R11). -/
theorem fold_untouched {b a : Frame} {rest : List Frame} (h : s.frames.stack = b :: a :: rest) :
    ∃ q, Untouched { s with frames.stack := { b with folded := true } :: rest, log.tail := q } s.fold := by
  unfold State.fold
  rw [h]
  dsimp only
  split
  · exact ⟨_, .trans (t := { State.post { s with frames.stack := { b with folded := true } :: rest } _ _ with log.tail := _ })
      ⟨rfl, id, id⟩ ((reclaim_untouched _ _).trans (post_untouched _ _ _))⟩
  · exact ⟨s.log.tail, ⟨rfl, id, id⟩⟩

/-- The frames above the target go, and with the last of them the records (R98). -/
theorem popFrames_untouched :
    ∃ q, (s.frames.stack.take s.targetDepth = [] → q = s.log.head) ∧
      Untouched { s with frames.stack := s.frames.stack.take s.targetDepth, log.tail := q } s.popFrames := by
  unfold State.popFrames
  dsimp only
  split
  · have hreclaim := reclaim_untouched { s with frames.stack := s.frames.stack.take s.targetDepth } s.log.head
    exact ⟨s.log.head, fun _ => rfl, hreclaim.trans (post_untouched _ _ _)⟩
  · rename_i hdepth
    exact ⟨s.log.tail, fun h => absurd (congrArg List.length h) hdepth, ⟨rfl, id, id⟩⟩

/-- The top frame goes, and with the last frame the records (R14). -/
theorem commitTop_untouched (h : s.frames.stack ≠ []) :
    ∃ q, (s.frames.stack.dropLast = [] → q = s.log.head) ∧
      Untouched { s with frames.stack := s.frames.stack.dropLast, log.tail := q } s.commitTop := by
  have hreclaim := reclaim_untouched { s with frames.stack := s.frames.stack.dropLast } s.log.head
  have hstop (u : State) : Untouched u u.stopHold.stopDeadline := ⟨rfl, id, id⟩
  have hload (u : State) : Untouched u u.loadDeadline := ⟨rfl, id, id⟩
  unfold State.commitTop State.top
  dsimp only
  split
  · rename_i htop
    exact absurd (List.getLast?_eq_none_iff.1 htop) h
  split
  · exact ⟨s.log.head, fun _ => rfl,
      ((hreclaim.trans (hstop _)).trans (post_untouched _ _ _)).trans (rejudge_untouched _)⟩
  rename_i hbelow
  split
  · exact ⟨s.log.head, fun _ => rfl,
      ((hreclaim.trans (hload _)).trans (post_untouched _ _ _)).trans (rejudge_untouched _)⟩
  · refine ⟨s.log.tail, fun hnil => ?_, ((hload _).trans (post_untouched _ _ _)).trans (rejudge_untouched _)⟩
    rw [hnil] at hbelow
    cases hbelow

end frames

end Sys2Proof.FrameDiscipline
end

/-! ## What an event leaves of the frame stack (R2, R3, R14, R15, R98) and of what the operating state implies (R17, R64, R83,
R101, R113, R141) -/

section
namespace Sys2Proof.FrameDiscipline

open Sys2Proof Sys2Proof.Machine Sys2Proof.UndoLog Sys2Proof.FramePath

/-! ### Stacks of frames -/

/-- At most eight frames with distinct serials other than 0, each BROKEN below a BROKEN one. -/
structure StackWf (l : List Frame) : Prop where
  depth : l.length ≤ 8
  serials : (l.map Frame.serial).Nodup
  nonzero : ∀ f ∈ l, f.serial ≠ 0#16
  order : l.Pairwise fun f g => f.status = .broken ∨ g.status = .intact

theorem brokenBelow_iff {l : List Frame} :
    brokenBelow l = true ↔ l.Pairwise fun f g => f.status = .broken ∨ g.status = .intact := by
  induction l with
  | nil => simp [brokenBelow]
  | cons f l ih =>
    simp only [brokenBelow, Bool.and_eq_true, Bool.or_eq_true, beq_iff_eq, List.all_eq_true, List.pairwise_cons, ih]
    refine and_congr_left fun _ => ⟨fun h g hg => h.imp_right fun h => h g hg, fun h => ?_⟩
    by_cases hf : f.status = .broken
    · exact .inl hf
    · exact .inr fun g hg => (h g hg).resolve_left hf

namespace StackWf

variable {l l' : List Frame} {f : Frame}

theorem nil : StackWf [] := ⟨by simp, by simp, by simp, .nil⟩

/-- Frames may be taken away. -/
theorem sublist (h : StackWf l) (hl : l'.Sublist l) : StackWf l' :=
  ⟨hl.length_le.trans h.depth, h.serials.sublist (hl.map _), fun f hf => h.nonzero f (hl.subset hf), h.order.sublist hl⟩

/-- The bottom frame may become folded (R10). -/
theorem folded (h : StackWf (f :: l)) : StackWf ({ f with folded := true } :: l) := by
  obtain ⟨hf, hl⟩ := List.pairwise_cons.1 h.order
  exact ⟨h.depth, h.serials, List.forall_mem_cons.2 (List.forall_mem_cons.1 h.nonzero), .cons hf hl⟩

/-- All frames may become BROKEN (R17). -/
theorem breakUp (h : StackWf l) : StackWf (l.map Frame.breakUp) where
  depth := (List.length_map _).trans_le h.depth
  serials := by
    rw [List.map_map]
    exact h.serials
  nonzero := List.forall_mem_map.2 h.nonzero
  order := List.pairwise_map.2 (List.pairwise_of_forall fun _ _ => .inl rfl)

/-- A frame may become BROKEN over BROKEN ones (R15). -/
theorem broken {lows above : List Frame} (h : StackWf (lows ++ f :: above)) (hlows : ∀ g ∈ lows, g.status = .broken) :
    StackWf (lows ++ { f with status := .broken } :: above) where
  depth := by simpa using h.depth
  serials := by simpa using h.serials
  nonzero g hg := by
    rcases List.mem_append.1 hg with hg | hg
    · exact h.nonzero g (List.mem_append_left _ hg)
    rcases List.mem_cons.1 hg with rfl | hg
    · exact h.nonzero f (List.mem_append_right _ (List.mem_cons_self ..))
    · exact h.nonzero g (List.mem_append_right _ (List.mem_cons_of_mem _ hg))
  order := by
    obtain ⟨hl, ha, -⟩ := List.pairwise_append.1 h.order
    exact List.pairwise_append.2
      ⟨hl, .cons (fun _ _ => .inl rfl) (List.pairwise_cons.1 ha).2, fun g hg _ _ => .inl (hlows g hg)⟩

/-- An INTACT frame with a fresh serial may be pushed on fewer than eight frames (R8). -/
theorem push (h : StackWf l) (hroom : l.length < 8) (hfresh : f.serial ∉ l.map Frame.serial) (hzero : f.serial ≠ 0#16)
    (hintact : f.status = .intact) : StackWf (l ++ [f]) where
  depth := by simpa using hroom
  serials := by
    rw [List.map_append]
    exact h.serials.append (List.nodup_singleton _) (by simpa using hfresh)
  nonzero g hg := by
    rcases List.mem_append.1 hg with hg | hg
    · exact h.nonzero g hg
    · exact List.mem_singleton.1 hg ▸ hzero
  order := List.pairwise_append.2
    ⟨h.order, List.pairwise_singleton _ _, fun _ _ g hg => .inr (List.mem_singleton.1 hg ▸ hintact)⟩

end StackWf

/-! ### The two invariants -/

/-- `State.stackOk` as a proposition. -/
structure StackOk (s : State) : Prop where
  wf : StackWf s.frames.stack
  held : s.frames.held.length < 8
  target : s.targetDepth < 8

theorem stackOk_iff {s : State} : s.stackOk = true ↔ StackOk s := by
  simp only [State.stackOk, Bool.and_eq_true, decide_eq_true_eq, List.all_eq_true, bne_iff_ne, brokenBelow_iff]
  exact ⟨fun ⟨⟨⟨⟨⟨h1, h2⟩, h3⟩, h4⟩, h5⟩, h6⟩ => ⟨⟨h1, h2, h3, h4⟩, h5, h6⟩,
    fun ⟨⟨h1, h2, h3, h4⟩, h5, h6⟩ => ⟨⟨⟨⟨⟨h1, h2⟩, h3⟩, h4⟩, h5⟩, h6⟩⟩

/-- With no frame the log has no record (R64). -/
def LogFollowsStack (s : State) : Prop := s.frames.stack = [] → s.log.head = s.log.tail

/-- `State.modeOk` as a proposition. -/
structure ModeOk (s : State) : Prop where
  inactive : s.mode.state ≠ .active → s.frames.barrier = none ∧ s.engine.phase = .idle ∧ s.log.head = s.log.tail
  setup : s.mode.state = .setup → s.frames.stack = []
  failed : s.mode.state = .failed → ∀ f ∈ s.frames.stack, f.status = .broken
  log : s.engine.phase = .idle → LogFollowsStack s
  idle : s.engine.phase = .idle → s.engine = engineIdle
  reserved : s.ctl.reserved = true → s.engine.phase ≠ .idle

theorem modeOk_iff {s : State} : s.modeOk = true ↔ ModeOk s := by
  simp only [State.modeOk, State.rollingBack, Bool.and_eq_true, Bool.or_eq_true, beq_iff_eq, bne_iff_ne, Bool.not_eq_true',
    List.isEmpty_iff, Option.isNone_iff_eq_none, List.all_eq_true, ← Bool.not_eq_true, ne_eq, not_not,
    or_iff_not_imp_left, Classical.not_imp, and_imp, and_assoc]
  exact ⟨fun ⟨h1, h2, h3, h4, h5, h6⟩ => ⟨h1, h2, h3, fun hp hs => h4 hs hp, h5, h6⟩,
    fun ⟨h1, h2, h3, h4, h5, h6⟩ => ⟨h1, h2, h3, fun hs hp => h4 hp hs, h5, h6⟩⟩

section modes

variable {s t : State}

theorem Untouched.stackOk (h : Untouched s t) (ok : StackOk s) : StackOk t :=
  ⟨h.stack ▸ ok.wf, h.held ▸ ok.held, h.targetDepth ▸ ok.target⟩

theorem Untouched.logFollowsStack (h : Untouched s t) (hs : LogFollowsStack s) : LogFollowsStack t := by
  unfold LogFollowsStack
  rw [h.stack, h.head, h.tail]
  exact hs

theorem Untouched.modeOk (h : Untouched s t) (ok : ModeOk s) : ModeOk t where
  inactive hm := by
    obtain ⟨hbarrier, hphase, hlog⟩ := ok.inactive (h.state ▸ hm)
    exact ⟨h.barrier hbarrier, h.phase.trans hphase, by rw [h.head, h.tail, hlog]⟩
  setup hm := h.stack.trans (ok.setup (h.state ▸ hm))
  failed hm := h.stack ▸ ok.failed (h.state ▸ hm)
  log hp := h.logFollowsStack (ok.log (h.phase ▸ hp))
  idle hp := h.engineIdle (ok.idle (h.phase ▸ hp))
  reserved hr := h.phase ▸ ok.reserved (h.reserved ▸ hr)

/-- In ACTIVE the invariant asks little: a log without frames is empty, and the engine and the reservation stay. -/
theorem ModeOk.of_active (ok : ModeOk s) (hm : t.mode.state = .active) (hl : s.engine.phase = .idle → LogFollowsStack t)
    (he : t.engine = s.engine) (hr : t.ctl.reserved = s.ctl.reserved) : ModeOk t where
  inactive hne := absurd hm hne
  setup h := absurd (hm.symm.trans h) (by decide)
  failed h := absurd (hm.symm.trans h) (by decide)
  log hp := hl (he ▸ hp)
  idle hp := he ▸ ok.idle (he ▸ hp)
  reserved h := he ▸ ok.reserved (hr ▸ h)

/-- During a rollback in ACTIVE it asks nothing more. -/
theorem ModeOk.of_rolling (hm : t.mode.state = .active) (hp : t.engine.phase ≠ .idle) : ModeOk t where
  inactive hne := absurd hm hne
  setup h := absurd (hm.symm.trans h) (by decide)
  failed h := absurd (hm.symm.trans h) (by decide)
  log h := absurd h hp
  idle h := absurd h hp
  reserved _ := hp

/-- With the engine at its IDLE values, no reservation and no record, it asks for frames and a barrier that the operating
state allows. -/
theorem ModeOk.of_idle (hb : t.mode.state ≠ .active → t.frames.barrier = none ∧ t.log.head = t.log.tail)
    (hsetup : t.mode.state = .setup → t.frames.stack = [])
    (hfailed : t.mode.state = .failed → ∀ f ∈ t.frames.stack, f.status = .broken) (hl : LogFollowsStack t)
    (he : t.engine = engineIdle) (hr : t.ctl.reserved = false) : ModeOk t where
  inactive hm := ⟨(hb hm).1, he ▸ rfl, (hb hm).2⟩
  setup := hsetup
  failed := hfailed
  log _ := hl
  idle _ := he
  reserved h := absurd (hr.symm.trans h) (by decide)

theorem ModeOk.active_of_rolling (ok : ModeOk s) (hp : s.engine.phase ≠ .idle) : s.mode.state = .active := by
  by_contra hm
  exact hp (ok.inactive hm).2.1

theorem ModeOk.active_of_barrier (ok : ModeOk s) (hb : s.frames.barrier ≠ none) : s.mode.state = .active := by
  by_contra hm
  exact hb (ok.inactive hm).1

theorem ModeOk.active_of_intact (ok : ModeOk s) {f : Frame} (hf : f ∈ s.frames.stack) (hi : f.status = .intact) :
    s.mode.state = .active := by
  cases hm : s.mode.state with
  | active => rfl
  | setup =>
    rw [ok.setup hm] at hf
    cases hf
  | failed =>
    rw [ok.failed hm f hf] at hi
    cases hi

theorem LogFollowsStack.of_ne_nil (h : s.frames.stack ≠ []) : LogFollowsStack s := fun hs => absurd hs h

end modes

/-- Each of the two invariants is kept, by itself. -/
structure Kept (s t : State) : Prop where
  stack : StackOk s → StackOk t
  mode : ModeOk s → ModeOk t

namespace Kept

variable {s t u : State}

theorem refl (s : State) : Kept s s := ⟨id, id⟩

theorem trans (h : Kept s t) (k : Kept t u) : Kept s u := ⟨fun ok => k.stack (h.stack ok), fun ok => k.mode (h.mode ok)⟩

theorem of_untouched (h : Untouched s t) : Kept s t := ⟨h.stackOk, h.modeOk⟩

end Kept

end Sys2Proof.FrameDiscipline
end

/-! ## Every step keeps the frame stack and what the operating state implies -/

section
namespace Sys2Proof.FrameDiscipline

open Sys2Proof Sys2Proof.Machine Sys2Proof.AccessPath Sys2Proof.UndoLog Sys2Proof.FramePath

section parts

variable {s t u : State}

/-! ### Captures -/

theorem breakLowest_kept (s : State) (cause : BreakCause) : Kept s (s.breakLowest cause) := by
  obtain he | ⟨lows, g, above, q, hstack, hlows, hintact, hu⟩ := breakLowest_untouched s cause
  · rw [he]
    exact .refl s
  refine .trans ⟨fun ok => ?_, fun ok => ?_⟩ (.of_untouched hu)
  · exact ⟨(hstack ▸ ok.wf).broken hlows, ok.held, ok.target⟩
  · exact ok.of_active (ok.active_of_intact (hstack ▸ List.mem_append_right _ (List.mem_cons_self ..)) hintact)
      (fun _ => .of_ne_nil (List.append_ne_nil_of_right_ne_nil _ (List.cons_ne_nil _ _))) rfl rfl

/-- A grant is made under an INTACT top (R55). -/
theorem grantOldest_kept (hask : s.canAsk = true) : Kept s s.grantOldest := by
  obtain ⟨q, hu⟩ := grantOldest_untouched s
  obtain ⟨-, -, htop, -, -⟩ := canAsk_iff.1 hask
  unfold State.topIntact at htop
  split at htop
  · rename_i f hf
    have hmem := List.mem_of_getLast? hf
    refine .trans (t := { s with log.head := q }) ⟨fun ok => ⟨ok.wf, ok.held, ok.target⟩, fun ok => ?_⟩ (.of_untouched hu)
    exact ok.of_active (ok.active_of_intact hmem (eq_of_beq htop)) (fun _ => .of_ne_nil (List.ne_nil_of_mem hmem)) rfl rfl
  · cases htop

theorem grantLoop_kept (n : Nat) (x : Bool) (s : State) : Kept s (State.grantLoop n x s) := by
  induction n generalizing s x with
  | zero => exact .refl s
  | succ n ih =>
    unfold State.grantLoop
    split
    · exact .refl s
    rename_i hask
    have hask' : s.canAsk = true := by simp_all
    split
    · exact (grantOldest_kept hask').trans (ih _ _)
    split
    · exact (breakLowest_kept s _).trans (ih _ _)
    split
    · exact (breakLowest_kept s _).trans (ih _ _)
    · exact .of_untouched ⟨rfl, id, id⟩

theorem grantCaptures_kept (s : State) : Kept s s.grantCaptures := grantLoop_kept _ _ s

theorem expireHold_kept (s : State) : Kept s s.expireHold :=
  ((Kept.of_untouched (s := s) (t := s.stopHold) ⟨rfl, id, id⟩).trans (breakLowest_kept _ .holdExpired)).trans
    (grantLoop_kept _ true _)

/-! ### Frames -/

/-- With few frames the choice is fresh, and the push keeps the stack (R3, R8). -/
theorem push_stackOk (ok : StackOk s) (hroom : s.frames.stack.length < 8) {c : Serial × Bool}
    (hfresh : c.1 ∉ s.frames.stack.map Frame.serial) (hzero : c.1 ≠ 0#16) (o : FrameOrigin) : StackOk (s.push c o) := by
  refine (push_untouched s c o).stackOk ⟨ok.wf.push hroom hfresh hzero rfl, ?_, ok.target⟩
  dsimp only
  split
  · simpa using hroom
  · exact ok.held

theorem StackOk.chooseSerial (ok : StackOk s) :
    s.chooseSerial.1 ∉ s.frames.stack.map Frame.serial ∧ s.chooseSerial.1 ≠ 0#16 := by
  have hlen : s.frames.usedSerials.length < 65535 := by
    have hdepth := ok.wf.depth
    have hheld := ok.held
    rw [FrameStack.usedSerials, List.length_append, List.length_map]
    omega
  obtain ⟨hfresh, hzero⟩ := chooseSerial_fresh hlen
  exact ⟨fun hmem => hfresh (List.mem_append_left _ hmem), hzero⟩

theorem push_modeOk (ok : ModeOk s) (hm : s.mode.state = .active) (c : Serial × Bool) (o : FrameOrigin) :
    ModeOk (s.push c o) :=
  (push_untouched s c o).modeOk
    (ok.of_active hm (fun _ => .of_ne_nil (List.append_ne_nil_of_right_ne_nil _ (List.cons_ne_nil _ _))) rfl rfl)

/-- A fold at eight frames leaves seven, whose serials were on the stack before (R10). -/
theorem fold_stackOk (ok : StackOk s) (hfull : 8 ≤ s.frames.stack.length) :
    StackOk s.fold ∧ s.fold.frames.stack.length < 8 ∧
      s.fold.frames.stack.map Frame.serial ⊆ s.frames.stack.map Frame.serial := by
  obtain ⟨b, a, rest, hstack⟩ : ∃ b a rest, s.frames.stack = b :: a :: rest := by
    match h : s.frames.stack, hfull with
    | b :: a :: rest, _ => exact ⟨b, a, rest, rfl⟩
  obtain ⟨q, hu⟩ := fold_untouched s hstack
  have hwf : StackWf (b :: rest) := (hstack ▸ ok.wf).sublist ((List.sublist_cons_self a rest).cons_cons b)
  have hdepth := ok.wf.depth
  rw [hstack] at hdepth
  refine ⟨hu.stackOk ⟨hwf.folded, ok.held, ok.target⟩, ?_, ?_⟩
  · rw [hu.stack]
    exact hdepth
  · rw [hu.stack, hstack]
    exact List.cons_subset_cons b.serial (List.subset_cons_self ..)

theorem fold_modeOk (ok : ModeOk s) (hm : s.mode.state = .active) : ModeOk s.fold := by
  by_cases h : ∃ b a rest, s.frames.stack = b :: a :: rest
  · obtain ⟨b, a, rest, hstack⟩ := h
    obtain ⟨q, hu⟩ := fold_untouched s hstack
    exact hu.modeOk (ok.of_active hm (fun _ => .of_ne_nil (List.cons_ne_nil _ _)) rfl rfl)
  · unfold State.fold
    split
    · rename_i hstack
      exact absurd ⟨_, _, _, hstack⟩ h
    · exact ok

theorem decideOpen_stackOk (ok : StackOk s) : StackOk s.decideOpen := by
  obtain ⟨hfresh, hzero⟩ := ok.chooseSerial
  unfold State.decideOpen
  dsimp only
  split
  · exact (answer_untouched s _).stackOk ok
  split
  · exact (answer_untouched s _).stackOk ok
  split
  · rename_i hfull
    obtain ⟨hok, hroom, hsub⟩ := fold_stackOk ok (of_decide_eq_true hfull)
    exact (answer_untouched _ _).stackOk (push_stackOk hok hroom (fun h => hfresh (hsub h)) hzero _)
  · rename_i hroom
    have hroom' : s.frames.stack.length < 8 := Nat.lt_of_not_le fun h => hroom (decide_eq_true h)
    exact (answer_untouched _ _).stackOk (push_stackOk ok hroom' hfresh hzero _)

theorem decideOpen_modeOk (ok : ModeOk s) (hm : s.mode.state = .active) : ModeOk s.decideOpen := by
  unfold State.decideOpen
  dsimp only
  repeat' split
  · exact (answer_untouched s _).modeOk ok
  · exact (answer_untouched s _).modeOk ok
  · exact (answer_untouched _ _).modeOk (push_modeOk (fold_modeOk ok hm) ((fold_keeps s).mode ▸ hm) _ _)
  · exact (answer_untouched _ _).modeOk (push_modeOk ok hm _ _)

/-- A barrier is in flight in ACTIVE alone. -/
theorem completeBarrier_kept (hb : s.frames.barrier ≠ none) : Kept s s.completeBarrier := by
  have hcleared : Untouched s { s with frames.barrier := none } := ⟨rfl, fun _ => rfl, id⟩
  refine .trans ⟨fun ok => decideOpen_stackOk (hcleared.stackOk ok), fun ok => ?_⟩ (.of_untouched (release_untouched _ _))
  exact decideOpen_modeOk (hcleared.modeOk ok) (ok.active_of_barrier hb)

theorem barrierIfDone_kept (s : State) : Kept s s.barrierIfDone := by
  unfold State.barrierIfDone
  split
  · rename_i hb
    exact completeBarrier_kept (by simp [hb])
  · exact .refl s
  · exact .refl s

theorem beginBarrier_kept (hm : s.mode.state = .active) : Kept s s.beginBarrier :=
  ⟨fun ok => ⟨ok.wf, ok.held, ok.target⟩, fun ok => ok.of_active hm ok.log rfl rfl⟩

theorem commitTop_kept (hm : s.mode.state = .active) (hne : s.frames.stack ≠ []) : Kept s s.commitTop := by
  obtain ⟨q, hq, hu⟩ := commitTop_untouched s hne
  refine .trans ⟨fun ok => ?_, fun ok => ?_⟩ (.of_untouched hu)
  · exact ⟨ok.wf.sublist (List.dropLast_sublist _), ok.held, ok.target⟩
  · exact ok.of_active hm (fun _ hnil => (hq hnil).symm) rfl rfl

/-! ### The Rollback Engine -/

theorem quiesceIfOver_kept (s : State) : Kept s s.quiesceIfOver := by
  unfold State.quiesceIfOver
  split
  · rename_i hq
    have hp : s.engine.phase ≠ .idle := fun hp => by simp [State.quiesceOver, hp] at hq
    exact ⟨fun ok => ⟨ok.wf, ok.held, ok.target⟩,
      fun ok => .of_rolling (ok.active_of_rolling hp) (by simp [State.endQuiesce])⟩
  · exact .refl s

/-- The parts that move the head and the record in hand, and no more, take place during a rollback. -/
theorem kept_of_rolling (hp : s.engine.phase ≠ .idle) (hm : t.mode = s.mode) (hphase : t.engine.phase = s.engine.phase)
    (htarget : t.engine.target = s.engine.target) (hf : t.frames = s.frames) : Kept s t where
  stack ok := ⟨hf ▸ ok.wf, hf ▸ ok.held, by unfold State.targetDepth; rw [htarget]; exact ok.target⟩
  mode ok := .of_rolling (hm ▸ ok.active_of_rolling hp) (hphase ▸ hp)

theorem beginStep_kept (hp : s.engine.phase ≠ .idle) : Kept s s.beginStep := by
  unfold State.beginStep State.stageStep
  repeat' split
  · exact .refl s
  all_goals exact kept_of_rolling hp rfl rfl rfl rfl

theorem takeReservation_reserved (s : State) : s.takeReservation.ctl.reserved = false := by
  have hpush (u : State) (c : Serial × Bool) (o : FrameOrigin) : (u.push c o).ctl.reserved = u.ctl.reserved :=
    (push_untouched u c o).reserved
  unfold State.takeReservation
  dsimp only
  repeat' split
  · rfl
  · rw [State.post_ctl]
    exact hpush _ _ _
  · rename_i h
    exact Bool.eq_false_iff.2 h

/-- A reservation pushes a frame, or leaves the frames and the log. -/
theorem takeReservation_logFollowsStack (h : LogFollowsStack s) : LogFollowsStack s.takeReservation := by
  unfold State.takeReservation
  dsimp only
  repeat' split
  · exact h
  · refine .of_ne_nil ?_
    rw [State.post_frames, (push_untouched _ _ _).stack]
    exact List.append_ne_nil_of_right_ne_nil _ (List.cons_ne_nil _ _)
  · exact h

theorem takeReservation_stackOk (ok : StackOk s) (hroom : s.frames.stack.length < 8) : StackOk s.takeReservation := by
  have ok' : StackOk { s with ctl.reserved := false } := ⟨ok.wf, ok.held, ok.target⟩
  obtain ⟨hfresh, hzero⟩ := ok.chooseSerial
  unfold State.takeReservation
  dsimp only
  repeat' split
  · exact (post_untouched _ _ _).stackOk ok'
  · exact (post_untouched _ _ _).stackOk (push_stackOk ok' hroom hfresh hzero _)
  · exact ok

/-- The completion of a rollback: the frames go, a reservation is taken, and the engine returns to IDLE (R98, R99). -/
theorem completeRollback_kept (hp : s.engine.phase ≠ .idle) : Kept s s.completeRollback := by
  obtain ⟨q, hq, hpop⟩ := popFrames_untouched s
  have hgiven := hpop.trans (giveOwed_untouched _ (s.popped.any (·.status == .broken)))
  obtain ⟨g, hg⟩ : ∃ g, g = s.popFrames.giveOwed (s.popped.any (·.status == .broken)) := ⟨_, rfl⟩
  obtain ⟨u, hu⟩ : ∃ u, u = (g.takeReservation.release .rollback).reloadIfFrames := ⟨_, rfl⟩
  have hreleased : Untouched g.takeReservation u :=
    hu ▸ (release_untouched _ _).trans (reloadIfFrames_untouched _)
  have hend : s.completeRollback = { u with engine := engineIdle } := by
    rw [hu, hg]
    rfl
  rw [← hg] at hgiven
  constructor
  · intro ok
    have htarget := ok.target
    have hok := hgiven.stackOk ⟨ok.wf.sublist (List.take_sublist _ _), ok.held, ok.target⟩
    have hroom : g.frames.stack.length < 8 := by
      rw [hgiven.stack, List.length_take]
      omega
    obtain ⟨hwf, hheld, -⟩ := hreleased.stackOk (takeReservation_stackOk hok hroom)
    exact hend ▸ ⟨hwf, hheld, (by decide : engineIdle.target.getD 0 < 8)⟩
  · intro ok
    have hm : u.mode.state = .active := by
      have hmode := (completeRollback_keeps s).mode
      rw [hend] at hmode
      exact (congrArg ModeController.state hmode).trans (ok.active_of_rolling hp)
    have hlog : LogFollowsStack u := hreleased.logFollowsStack
      (takeReservation_logFollowsStack (hgiven.logFollowsStack fun hnil => (hq hnil).symm))
    have hreserved : u.ctl.reserved = false := hreleased.reserved.trans (takeReservation_reserved g)
    exact hend ▸ .of_idle (fun h => absurd hm h) (fun h => by simp [hm] at h) (fun h => by simp [hm] at h) hlog rfl hreserved

theorem betweenSteps_rolling (h : s.betweenSteps = true) : s.engine.phase ≠ .idle := fun hp => by
  simp [State.betweenSteps, hp] at h

theorem unwindLoop_kept (n : Nat) (s : State) : Kept s (State.unwindLoop n s) := by
  induction n generalizing s with
  | zero => exact .refl s
  | succ n ih =>
    unfold State.unwindLoop
    repeat' split
    · rename_i h _
      exact completeRollback_kept (betweenSteps_rolling h)
    · rename_i h _
      exact (beginStep_kept (betweenSteps_rolling h)).trans (ih _)
    · exact .refl s

/-- Whatever is due at an event keeps the two invariants. -/
theorem settle_kept (s : State) : Kept s s.settle := by
  unfold State.settle
  split
  · dsimp only
    refine .trans ?_ (.of_untouched (arbitrate_untouched _))
    refine .trans ?_ (.of_untouched (startWriter_untouched _))
    refine .trans ?_ (grantCaptures_kept _)
    refine .trans ?_ (unwindLoop_kept _ _)
    refine .trans ?_ (quiesceIfOver_kept _)
    refine .trans ?_ (.of_untouched (startWriter_untouched _))
    refine .trans ?_ (grantCaptures_kept _)
    refine .trans ?_ (barrierIfDone_kept _)
    refine .trans ?_ (grantCaptures_kept _)
    exact .of_untouched ((wake_untouched s).trans (acceptPresented_untouched _))
  · exact .refl s

/-! ### Direct effects -/

/-- Entry to FAILED leaves neither a record nor a rollback, and every frame BROKEN (R17, R145). -/
theorem enterFailed_kept (s : State) (cause : FailCause) : Kept s (s.enterFailed cause) := by
  have hdenied : Untouched s (s.unissuedGuarded.foldl State.deny s) := .foldl (fun u e => finish_untouched u _ _ _) _ s
  constructor
  · intro ok
    have hok := hdenied.stackOk ok
    unfold State.enterFailed
    rw [cancelReservation_eq]
    exact ⟨hok.wf.breakUp, hok.held, (by decide : engineIdle.target.getD 0 < 8)⟩
  · intro _
    obtain ⟨hfailed, hrest, -⟩ := enterFailed_failedWith s cause
    have hend : (s.enterFailed cause).log.head = (s.enterFailed cause).log.tail ∧
        (s.enterFailed cause).engine = engineIdle ∧ (s.enterFailed cause).ctl.reserved = false := by
      unfold State.enterFailed
      rw [cancelReservation_eq]
      exact ⟨rfl, rfl, rfl⟩
    obtain ⟨hlog, hengine, hreserved⟩ := hend
    exact .of_idle (fun _ => ⟨hrest.barrier, hlog⟩) (fun h => absurd (hfailed.symm.trans h) (by decide))
      (fun _ => hrest.broken) (fun _ => hlog) hengine hreserved

theorem countLogAnswer_kept (s : State) (resp : MemStatus) : Kept s (s.countLogAnswer resp) := by
  have hend (s : State) (j : WriterJob) : Kept s (s.endAttempt j) := by
    have hstopped : Kept s { s with log.writer := none } := .of_untouched ⟨rfl, id, id⟩
    unfold State.endAttempt
    dsimp only
    repeat' split
    · exact hstopped
    · exact hstopped
    · exact .of_untouched ⟨rfl, id, id⟩
    · exact hstopped.trans (enterFailed_kept _ _)
    · exact .of_untouched ⟨rfl, id, id⟩
  unfold State.countLogAnswer
  dsimp only
  repeat' split
  · exact .refl s
  · exact hend s _
  · exact .of_untouched ⟨rfl, id, id⟩

/-- A record is in hand during a rollback alone. -/
theorem ModeOk.rolling_of_hand (ok : ModeOk s) {h : Hand} (hh : s.engine.hand = some h) : s.engine.phase ≠ .idle := fun hp => by
  rw [ok.idle hp] at hh
  cases hh

/-- A step that moves the head and the record in hand, and no more, where there is one. -/
theorem kept_of_hand {h : Hand} (hh : s.engine.hand = some h) (hm : t.mode = s.mode)
    (hphase : t.engine.phase = s.engine.phase) (htarget : t.engine.target = s.engine.target) (hf : t.frames = s.frames) :
    Kept s t where
  stack ok := ⟨hf ▸ ok.wf, hf ▸ ok.held, by unfold State.targetDepth; rw [htarget]; exact ok.target⟩
  mode ok := (kept_of_rolling (ok.rolling_of_hand hh) hm hphase htarget hf).mode ok

theorem recordRead_kept (s : State) (isHeader : Bool) (resp : LineResponse) : Kept s (s.recordRead isHeader resp) := by
  unfold State.recordRead
  dsimp only
  split
  · rename_i h hh
    split
    · split
      · rcases judgeReads_cases s h _ _ with ⟨cause, he⟩ | he | ⟨line, data, he⟩
        · exact he ▸ enterFailed_kept s cause
        · exact he ▸ kept_of_hand hh rfl rfl rfl rfl
        · exact he ▸ kept_of_hand hh rfl rfl rfl rfl
      · exact kept_of_hand hh rfl rfl rfl rfl
    · exact .refl s
  · exact .refl s

theorem recordWriteBack_kept (s : State) (resp : MemStatus) : Kept s (s.recordWriteBack resp) := by
  unfold State.recordWriteBack
  dsimp only
  split
  · exact enterFailed_kept s _
  split
  · exact .refl s
  · rename_i h hh
    split
    · exact kept_of_hand hh rfl rfl rfl rfl
    · exact kept_of_hand hh rfl rfl rfl rfl

theorem reserveOrBusy_kept (hp : s.engine.phase ≠ .idle) : Kept s s.reserveOrBusy := by
  obtain ⟨b, hu⟩ := reserveOrBusy_untouched s
  exact .trans (t := { s with ctl.reserved := b }) (kept_of_rolling hp rfl rfl rfl rfl) (.of_untouched hu)

theorem startRollback_kept (hm : s.mode.state = .active) (kind : AbortKind) (fromControl : Bool) :
    Kept s (s.startRollback kind fromControl) := by
  obtain ⟨b, hu⟩ := startRollback_untouched s kind fromControl
  refine .trans (t := { s with engine := s.startEngine kind fromControl, ctl.reserved := b })
    ⟨fun ok => ⟨ok.wf, ok.held, ?_⟩, fun _ => .of_rolling hm (by simp [State.startEngine])⟩ (.of_untouched hu)
  have hdepth : s.depth ≤ 8 := ok.wf.depth
  cases kind with
  | top => exact (by omega : s.depth - 1 < 8)
  | all => exact (by decide : 0 < 8)

/-- An abort request reaches the Rollback Engine in ACTIVE alone (R84). -/
theorem requestAbort_kept (hm : s.mode.state = .active) (kind : AbortKind) (fromControl : Bool) :
    Kept s (s.requestAbort kind fromControl) := by
  unfold State.requestAbort
  repeat' split
  · rename_i hp
    refine ⟨fun ok => ⟨ok.wf, ok.held, ?_⟩, fun _ => .of_rolling hm (rollingBack_iff.1 hp)⟩
    have htarget : s.engine.target.getD 0 < 8 := ok.target
    cases kind with
    | top => exact (by omega : s.engine.target.getD 0 - 1 < 8)
    | all => exact (by decide : 0 < 8)
  · exact .of_untouched (answer_untouched s _)
  · exact .refl s
  · exact startRollback_kept hm kind fromControl

theorem actOnFault_kept (s : State) (x : FaultSource) (a : FaultAction) : Kept s (s.actOnFault x a) := by
  have hposted (a : FaultAction) : Kept s (s.postFault x a) := .of_untouched (post_untouched s _ _)
  unfold State.actOnFault
  split
  · rename_i hm
    split
    · exact .refl s
    · exact hposted _
    · exact (hposted _).trans (requestAbort_kept (by exact hm) _ _)
    · exact (hposted _).trans (requestAbort_kept (by exact hm) _ _)
  all_goals
    split
    · exact .refl s
    all_goals exact hposted _

theorem expireDeadline_kept (s : State) : Kept s s.expireDeadline :=
  (Kept.of_untouched (s := s) (t := { s with flt.deadline := timerStopped }) ⟨rfl, id, id⟩).trans (actOnFault_kept _ _ _)

theorem countPulse_kept (s : State) : Kept s s.countPulse := by
  have hhold (s : State) : Kept s s.tickHold := by
    have hcounted : Kept s { s with log.hold.value := s.log.hold.value + 1 } := .of_untouched ⟨rfl, id, id⟩
    unfold State.tickHold
    dsimp only
    repeat' split
    · exact hcounted.trans (expireHold_kept _)
    · exact hcounted
    · exact .refl s
  have hdeadline (s : State) : Kept s s.tickDeadline := by
    have hcounted : Kept s { s with flt.deadline.value := s.flt.deadline.value - 1 } := .of_untouched ⟨rfl, id, id⟩
    unfold State.tickDeadline
    dsimp only
    repeat' split
    · exact hcounted.trans (expireDeadline_kept _)
    · exact hcounted
    · exact .refl s
  unfold State.countPulse
  split
  · have hcounted : Kept s { s with flt.pulses := 0, flt.ticks := s.flt.ticks + 1#32 } := .of_untouched ⟨rfl, id, id⟩
    exact (hcounted.trans (hhold _)).trans (hdeadline _)
  · exact .of_untouched ⟨rfl, id, id⟩

theorem dealOpen_kept (hm : s.mode.state = .active) : Kept s s.dealOpen := by
  unfold State.dealOpen
  split
  · rename_i hp
    exact reserveOrBusy_kept (rollingBack_iff.1 hp)
  · exact beginBarrier_kept hm

theorem dealCommit_kept (hm : s.mode.state = .active) : Kept s s.dealCommit := by
  unfold State.dealCommit
  repeat' split
  · exact .of_untouched (answer_untouched s _)
  · exact .of_untouched (answer_untouched s _)
  · rename_i hdepth
    exact (commitTop_kept hm fun h => hdepth (congrArg List.length h)).trans (.of_untouched (answer_untouched _ _))

/-- A rise of CREQ, where its owner keeps the invariants in ACTIVE. -/
theorem controlRise_kept (s : State) (req : CtlRequest) {owner : State → State}
    (h : ∀ u : State, u.mode.state = .active → Kept u (owner u)) : Kept s (s.controlRise req owner) := by
  unfold State.controlRise
  split
  · exact .refl s
  split
  · refine .trans (.trans (t := s.takeRequest req) (.of_untouched ⟨rfl, id, id⟩) ?_) (settle_kept _)
    unfold State.dealWith
    split
    · rename_i hm
      exact h _ hm
    all_goals exact .of_untouched (answer_untouched _ _)
  · exact .of_untouched ⟨rfl, id, id⟩

/-! ### Changes of the operating state -/

/-- LEAVE_SETUP leaves a part with no frame and no record (R140). -/
theorem activate_kept (hm : s.mode.state = .setup) : Kept s s.activate where
  stack ok := ⟨ok.wf, ok.held, ok.target⟩
  mode ok := by
    obtain ⟨-, hphase, hlog⟩ := ok.inactive (by simp [hm])
    exact .of_idle (fun h => absurd rfl h) (fun h => absurd h (by decide : OpState.active ≠ .setup))
      (fun h => absurd h (by decide : OpState.active ≠ .failed)) (fun _ => hlog) (ok.idle hphase)
      (Bool.eq_false_iff.2 fun hr => ok.reserved hr hphase)

/-- Without a frame, a record and a rollback, SETUP and ACTIVE may be entered with no barrier in flight. -/
theorem emptied_kept (ht : t.frames.stack = []) (hheld : t.frames.held = s.frames.held) (he : t.engine = s.engine)
    (hr : t.ctl.reserved = s.ctl.reserved) (hm : t.mode.state ≠ .failed)
    (hidle : ModeOk s → s.engine.phase = .idle ∧ t.frames.barrier = none ∧ t.log.head = t.log.tail) : Kept s t where
  stack ok := ⟨ht ▸ .nil, hheld ▸ ok.held, by unfold State.targetDepth; rw [he]; exact ok.target⟩
  mode ok := by
    obtain ⟨hphase, hbarrier, hlog⟩ := hidle ok
    exact .of_idle (fun _ => ⟨hbarrier, hlog⟩) (fun _ => ht) (fun h => absurd h hm) (fun _ => hlog)
      (he.trans (ok.idle hphase)) (hr.trans (Bool.eq_false_iff.2 fun hr => ok.reserved hr hphase))

/-- ENTER_SETUP from ACTIVE, with no frame, no rollback and no barrier (R142). -/
theorem toSetup_kept_of_active (h : s.mayEnterSetup = true) : Kept s s.toSetup := by
  simp only [State.mayEnterSetup, State.depth, State.barrierInFlight, Bool.and_eq_true, Bool.not_eq_true', beq_iff_eq,
    List.length_eq_zero_iff, Option.isSome_eq_false_iff, Option.isNone_iff_eq_none, rollingBack_eq_false_iff] at h
  obtain ⟨⟨hstack, hphase⟩, hbarrier⟩ := h
  exact emptied_kept rfl rfl rfl rfl (by decide : OpState.setup ≠ .failed) fun ok =>
    ⟨hphase, hbarrier, ok.log hphase hstack⟩

/-- ENTER_SETUP from FAILED (R143). -/
theorem toSetup_kept_of_failed (hm : s.mode.state = .failed) : Kept s s.toSetup :=
  emptied_kept rfl rfl rfl rfl (by decide : OpState.setup ≠ .failed) fun ok => by
    obtain ⟨hbarrier, hphase, hlog⟩ := ok.inactive (by simp [hm])
    exact ⟨hphase, hbarrier, hlog⟩

/-- RECOVER (R148). -/
theorem recovered_kept (hm : s.mode.state = .failed) : Kept s s.recovered :=
  emptied_kept rfl rfl rfl rfl (by decide : OpState.active ≠ .failed) fun ok => by
    obtain ⟨hbarrier, hphase, hlog⟩ := ok.inactive (by simp [hm])
    exact ⟨hphase, hbarrier, hlog⟩

theorem reset_stackOk : StackOk State.reset := stackOk_iff.1 (by decide)

theorem reset_modeOk : ModeOk State.reset := modeOk_iff.1 (by decide)

/-- A hard reset (R149). -/
theorem hardReset_kept (s : State) (cause : ResetCause) : Kept s (s.hardReset cause) := by
  have hu : Untouched State.reset (s.hardReset cause) := ⟨rfl, id, id⟩
  exact ⟨fun _ => hu.stackOk reset_stackOk, fun _ => hu.modeOk reset_modeOk⟩

end parts

/-! ### The commands -/

theorem exec_kept {i : Instr} {s t : State} (h : exec i s = .next t) : Kept s t := by
  have hsettled {u : State} (hu : Kept s u) : Kept s u.settle := hu.trans (settle_kept u)
  have hfreed (k : DTag) {f : State → State} (hf : ∀ u, Kept u (f u)) : Kept s (f (s.freeDownSlot k)).settle :=
    hsettled (.trans (t := s.freeDownSlot k) (.of_untouched ⟨rfl, id, id⟩) (hf _))
  cases i <;> obtain rfl := Host.Outcome.next.inj h
  case acceptRequest r =>
    refine hsettled (.of_untouched ?_)
    unfold State.present
    split <;> exact ⟨rfl, id, id⟩
  case openFrame => exact controlRise_kept s _ fun _ => dealOpen_kept
  case commit => exact controlRise_kept s _ fun _ => dealCommit_kept
  case abort => exact controlRise_kept s _ fun _ hm => requestAbort_kept hm _ _
  case abortAll => exact controlRise_kept s _ fun _ hm => requestAbort_kept hm _ _
  case takeFault line =>
    split
    · exact hsettled (.trans (t := { s with flt.latches := s.flt.latches.put line false })
        (.of_untouched ⟨rfl, id, id⟩) (actOnFault_kept _ _ _))
    · exact .refl s
  case trefPulse =>
    split
    · exact hsettled (countPulse_kept s)
    · exact .refl s
  case holdExpired =>
    split
    · exact hsettled (expireHold_kept s)
    · exact .refl s
  case deadlineExpiry =>
    split
    · exact hsettled (expireDeadline_kept s)
    · exact .refl s
  case hardReset c => exact hsettled (hardReset_kept s c)
  case enterSetup =>
    repeat' split
    · exact .of_untouched ⟨rfl, id, id⟩
    · rename_i hmay
      exact (toSetup_kept_of_active hmay).trans (.of_untouched ⟨rfl, id, id⟩)
    · exact .of_untouched ⟨rfl, id, id⟩
    · rename_i hm
      exact (toSetup_kept_of_failed hm).trans (.of_untouched ⟨rfl, id, id⟩)
    · exact .refl s
  case leaveSetup =>
    repeat' split
    · exact .of_untouched ⟨rfl, id, id⟩
    · rename_i hm _ _
      exact hsettled ((activate_kept hm).trans (.of_untouched ⟨rfl, id, id⟩))
    all_goals exact .of_untouched ⟨rfl, id, id⟩
  case recover =>
    repeat' split
    · rename_i hm
      exact hsettled ((recovered_kept hm).trans (.of_untouched ⟨rfl, id, id⟩))
    all_goals exact .of_untouched ⟨rfl, id, id⟩
  case forceAbort operand =>
    repeat' split
    · exact hsettled (.trans (t := s.reply .ack []) (.of_untouched ⟨rfl, id, id⟩) (actOnFault_kept _ _ _))
    all_goals exact .of_untouched ⟨rfl, id, id⟩
  case barrierCompletion =>
    split
    · rename_i hb
      exact hsettled (completeBarrier_kept (by simp_all))
    · exact .refl s
  case captureGrant =>
    split
    · exact hsettled (grantCaptures_kept s)
    · exact .refl s
  case passthroughResponse tag resp =>
    split
    · exact hfreed tag fun u => .of_untouched (answerPassthrough_untouched u _ _)
    · exact .refl s
  case preImageResponse tag resp =>
    split
    · exact hfreed tag fun u => .of_untouched (completeCapture_untouched u _ _)
    · exact .refl s
  case logWriterStart =>
    split
    · exact hsettled (.of_untouched ⟨rfl, id, id⟩)
    · exact .refl s
  case logWriteResponse tag resp =>
    split
    · exact hfreed tag fun u => countLogAnswer_kept u _
    · exact hfreed tag fun u => countLogAnswer_kept u _
    · exact .refl s
  case quiesceEnd =>
    split
    · rename_i hq
      have hover : s.quiesceIfOver = s.endQuiesce := if_pos (Bool.and_elim_right hq)
      exact hsettled (hover ▸ quiesceIfOver_kept s)
    · exact .refl s
  case unwindStep =>
    split
    · rename_i hu
      simp only [Bool.and_eq_true] at hu
      obtain ⟨⟨-, hbetween⟩, -⟩ := hu
      exact hsettled (beginStep_kept (betweenSteps_rolling hbetween))
    · exact .refl s
  case unwindReadResponse tag resp =>
    split
    · exact hfreed tag fun u => recordRead_kept u _ _
    · exact hfreed tag fun u => recordRead_kept u _ _
    · exact .refl s
  case writeBackResponse tag resp =>
    split
    · exact hfreed tag fun u => recordWriteBack_kept u _
    · exact .refl s
  case rollbackCompletion =>
    split
    · rename_i hu
      simp only [Bool.and_eq_true] at hu
      obtain ⟨⟨-, hbetween⟩, -⟩ := hu
      exact hsettled (completeRollback_kept (betweenSteps_rolling hbetween))
    · exact .refl s
  case downstreamGrant =>
    split
    · exact .of_untouched (arbitrate_untouched s)
    · exact .refl s
  case discardedResponse tag =>
    split
    · exact hfreed tag fun u => .refl u
    · exact hfreed tag fun u => .refl u
    all_goals exact .refl s
  case sweepClear =>
    split
    · unfold State.sweepOne
      dsimp only
      split <;> exact .of_untouched ⟨rfl, id, id⟩
    · exact .refl s
  case rstNRise =>
    split
    · exact .refl s
    · exact hsettled (.of_untouched ⟨rfl, id, id⟩)
  -- the commands of the handshake, of the fault lines and of the link that write fields of their own
  all_goals repeat' split
  all_goals exact .of_untouched ⟨rfl, id, id⟩

theorem step_kept {s t : State} (h : step s = .next t) : Kept s t := by
  unfold step at h
  split at h
  · split at h
    · obtain rfl := Host.Outcome.next.inj h
      exact .refl s
    · rename_i e rest _
      have hqueue : Kept s { s with wire := rest } := .of_untouched ⟨rfl, id, id⟩
      obtain ⟨i, _, _, _, -, -, -, -, -, he⟩ | he | ⟨_, _, he⟩ := execEdge_cases e { s with wire := rest }
      · exact hqueue.trans (exec_kept (he ▸ h))
      · exact hqueue.trans (exec_kept (he ▸ h))
      · obtain rfl := Host.Outcome.next.inj (he.symm.trans h)
        exact .of_untouched ⟨rfl, id, id⟩
  · rename_i c rest _
    exact .trans (t := { s with pending := rest }) (.of_untouched ⟨rfl, id, id⟩) (exec_kept h)

/-- Settles O13: pushes take fresh serials onto fewer than eight frames, folds and removals take frames away, and a break
falls on the lowest INTACT frame. -/
theorem stepKeepsFrameStack : Obligations.StepKeepsFrameStack := fun _ _ hs h =>
  stackOk_iff.2 ((step_kept h).stack (stackOk_iff.1 hs))

/-- Settles O14: barriers, grants, breaks and rollbacks are of ACTIVE, what ends a rollback takes the reservation, and what
empties the stack empties the log. -/
theorem stepKeepsModeDiscipline : Obligations.StepKeepsModeDiscipline := fun _ _ hs h =>
  modeOk_iff.2 ((step_kept h).mode (modeOk_iff.1 hs))

end Sys2Proof.FrameDiscipline
end

/-! ## The values after reset (R19, R38, R60, R81, R102, R115, R127, R135, R149, R158) -/

section
namespace Sys2Proof.FrameDiscipline

open Sys2Proof Sys2Proof.Machine

/-! ### Block by block -/

theorem reset_setupItems :
    (∀ n < 8, itemBytes (setupItem State.reset.mode.setup n) = [0x00, 0x01, 0, 0, 0, 0]) ∧
      (∀ n ∈ [0x08, 0x09, 0x0B, 0x0C, 0x0E], itemBytes (setupItem State.reset.mode.setup n) = [0, 0, 0, 0, 0, 0]) ∧
      itemBytes (setupItem State.reset.mode.setup 0x0A) = [0x00, 0x10, 0, 0, 0, 0] ∧
      itemBytes (setupItem State.reset.mode.setup 0x0D) = [0, 0, 0, 0, 0, 0x01] ∧
      ∀ n ∈ [0x0F, 0x10, 0x11, 0x12, 0x13], itemBytes (setupItem State.reset.mode.setup n) = [0x01, 0, 0, 0, 0, 0] :=
  ⟨by decide, by decide, by decide, by decide, by decide⟩

theorem reset_windows :
    State.reset.win.windows.length = 8 ∧
      (∀ w ∈ State.reset.win.windows, w = { enable := false, basePage := 0#28, pages := 1, mapOffset := 0 }) ∧
      State.reset.win.logBase = 0#28 ∧ State.reset.win.capacity = 0 :=
  ⟨rfl, fun _ hw => List.eq_of_mem_replicate hw, rfl, rfl⟩

theorem reset_downstream :
    State.reset.down.slots.length = 16 ∧ (∀ d ∈ State.reset.down.slots, d = .free) ∧ State.reset.down.waiting = [] :=
  ⟨rfl, fun _ hd => List.eq_of_mem_replicate hd, rfl⟩

theorem reset_faultLine (l : FaultLine) :
    State.reset.flt.latches.get l = false ∧ State.reset.flt.actions.ofLine l = .note := by
  cases l <;> exact ⟨rfl, rfl⟩

/-- Settles O2: the setup table, the windows, the fault lines and the downstream slots one by one; every other value is a
field of the reset state. -/
theorem resetHasTheSpecsValues : Obligations.ResetHasTheSpecsValues :=
  ⟨⟨rfl, rfl, rfl, rfl, rfl⟩, reset_setupItems, reset_windows, rfl, ⟨rfl, rfl, rfl⟩, ⟨rfl, rfl, rfl, rfl, rfl⟩,
    ⟨rfl, rfl, rfl, rfl⟩, ⟨rfl, rfl, rfl, rfl, rfl, rfl⟩, ⟨rfl, rfl, rfl, rfl⟩,
    ⟨reset_faultLine, rfl, rfl, rfl, rfl, rfl, rfl⟩, reset_downstream, rfl, rfl, rfl⟩

/-! ### The invariants -/

theorem reset_setupOk : State.reset.setupOk = true := by decide

theorem reset_captureLogOk : State.reset.captureLogOk = true := by decide

/-- Settles O3: with empty tables and queues there is little to meet. -/
theorem resetMeetsTheInvariants : Obligations.ResetMeetsTheInvariants :=
  ⟨by decide, by decide, by decide, by decide, reset_setupOk, stackOk_iff.2 reset_stackOk, reset_captureLogOk,
    modeOk_iff.2 reset_modeOk, by decide, by decide⟩

end Sys2Proof.FrameDiscipline
end

/-! ## The control requests: OPEN that waits or is refused, and the answers given at the taking (R5, R13, R84, R105, R108 to
R110, R112) -/

section
namespace Sys2Proof.FramePath

open Sys2Proof Sys2Proof.Machine Sys2Proof.AccessPath Sys2Proof.UndoLog

variable {s : State} {req : CtlRequest} {owner : State → State}

/-! ### OPEN -/

theorem exec_open (hr : s.rstN = true) (hc : s.ctl.creq = false) (hh : s.ctl.handshake = .idle)
    (hm : s.mode.state = .active) : exec .openFrame s = .next (s.takeRequest .openFrame).dealOpen.settle :=
  congrArg Host.Outcome.next (controlRise_active hr hc hh hm .openFrame _)

/-- With no rollback in flight an OPEN begins a barrier (R5). -/
theorem dealOpen_of_idle (hp : s.engine.phase = .idle) : s.dealOpen = s.beginBarrier :=
  if_neg (by simp [rollingBack_eq_false_iff.2 hp])

theorem dealOpen_of_rolling (hp : s.engine.phase ≠ .idle) : s.dealOpen = s.reserveOrBusy := if_pos (rollingBack_iff.2 hp)

/-- The OPEN in hand is RESERVED where the slot is to be had, and BUSY otherwise (R112). -/
theorem reserveOrBusy_taken (s : State) :
    (s.takeRequest .openFrame).reserveOrBusy =
      { Effect.ctlAnswered s .openFrame (if s.mode.reservation && !s.ctl.reserved then .reserved else .busy) with
        ctl.reserved := s.ctl.reserved || (s.mode.reservation && !s.ctl.reserved) } := by
  have hfree : ((s.takeRequest .openFrame).mode.reservation && !(s.takeRequest .openFrame).ctl.reserved) =
      (s.mode.reservation && !s.ctl.reserved) := rfl
  unfold State.reserveOrBusy
  rw [hfree]
  cases h : s.mode.reservation && !s.ctl.reserved with
  | true =>
    rw [Bool.or_true]
    rfl
  | false =>
    rw [Bool.or_false]
    rfl

/-- Settles O24: with no rollback the barrier begins with its set, and with one the OPEN is answered. -/
theorem openWaitsOrIsReserved : Obligations.OpenWaitsOrIsReserved := by
  intro s hr hc hh hm
  have hexec := exec_open hr hc hh hm
  refine ⟨fun hp => ?_, fun hp => ?_⟩
  · rw [dealOpen_of_idle (s := s.takeRequest .openFrame) hp] at hexec
    exact gives_of_settle hexec hr
  · rw [dealOpen_of_rolling (s := s.takeRequest .openFrame) hp, reserveOrBusy_taken] at hexec
    exact gives_of_settle hexec hr

/-! ### Answers at the taking -/

theorem dealWith_active (hm : s.mode.state = .active) : s.dealWith owner = owner s := by
  unfold State.dealWith
  rw [hm]

theorem dealWith_of_not_active (hm : s.mode.state ≠ .active) : s.dealWith owner = s.answer .offline := by
  unfold State.dealWith
  split
  · rename_i h
    exact absurd h hm
  all_goals rfl

/-- A request answered at its taking leaves its answer, and nothing else but the level of CREQ. -/
theorem gives_refused {i : Instr} {a : CtlAnswer} (hexec : exec i s = .next (s.controlRise req owner))
    (hr : s.rstN = true) (hc : s.ctl.creq = false) (hh : s.ctl.handshake = .idle)
    (hdeal : (s.takeRequest req).dealWith owner = (s.takeRequest req).answer a) :
    Effect.Gives (exec i s) (Effect.ctlAnswered s req a) := by
  refine gives_of_settle (hexec.trans (congrArg Host.Outcome.next ?_)) hr
  unfold State.controlRise
  rw [if_neg (by simp [hc]), if_pos (by simp [hr, hh]), hdeal]
  rfl

/-- A COMMIT during a rollback is BUSY (R109). -/
theorem dealCommit_of_rolling (hp : s.engine.phase ≠ .idle) : s.dealCommit = s.answer .busy := if_pos (rollingBack_iff.2 hp)

/-- At depth 0 it finds no frame (R13). -/
theorem dealCommit_of_noFrame (hp : s.engine.phase = .idle) (hf : s.frames.stack = []) :
    s.dealCommit = s.answer .noFrame := by
  unfold State.dealCommit
  rw [if_neg (by simp [rollingBack_eq_false_iff.2 hp]), if_pos (by simp [State.depth, hf])]

/-- Nor does an abort request there (R84). -/
theorem requestAbort_of_noFrame (hp : s.engine.phase = .idle) (hf : s.frames.stack = []) (kind : AbortKind) (b : Bool) :
    s.requestAbort kind b = if b then s.answer .noFrame else s := by
  unfold State.requestAbort
  rw [if_neg (by simp [rollingBack_eq_false_iff.2 hp]), if_pos (by simp [State.depth, hf])]

/-- The owner of each control request (R13, R108, R110). -/
def ownerOf : CtlRequest → State → State
  | .openFrame => State.dealOpen
  | .commit => State.dealCommit
  | .abort => fun s => s.requestAbort .top true
  | .abortAll => fun s => s.requestAbort .all true

theorem exec_control {i : Instr}
    (hi : (i, req) ∈ [(Instr.openFrame, CtlRequest.openFrame), (.commit, .commit), (.abort, .abort), (.abortAll, .abortAll)]) :
    exec i s = .next (s.controlRise req (ownerOf req)) := by
  simp only [List.mem_cons, Prod.mk.injEq, List.not_mem_nil, or_false] at hi
  obtain ⟨rfl, rfl⟩ | ⟨rfl, rfl⟩ | ⟨rfl, rfl⟩ | ⟨rfl, rfl⟩ := hi
  all_goals rfl

/-- Settles O28: in each case the request's owner, or the port itself, answers it and does nothing else. -/
theorem controlRequestsRefusedAtTheTaking : Obligations.ControlRequestsRefusedAtTheTaking := by
  intro i req a s hi hr hc hh hcase
  refine gives_refused (exec_control hi) hr hc hh ?_
  obtain ⟨hm, rfl⟩ | ⟨hm, rfl, hp, rfl⟩ | ⟨hm, hreq, hp, hf, rfl⟩ := hcase
  · exact dealWith_of_not_active hm
  · exact (dealWith_active (s := s.takeRequest .commit) hm).trans (dealCommit_of_rolling hp)
  · refine (dealWith_active (s := s.takeRequest req) hm).trans ?_
    cases req with
    | openFrame => exact absurd rfl hreq
    | commit => exact dealCommit_of_noFrame (s := s.takeRequest .commit) hp hf
    | abort => exact requestAbort_of_noFrame (s := s.takeRequest .abort) hp hf .top true
    | abortAll => exact requestAbort_of_noFrame (s := s.takeRequest .abortAll) hp hf .all true

/-- Settles O30: the start of a rollback is that of the statements, whatever raised it. -/
theorem rollbackStartAbsorbsUnissuedEntries : Obligations.RollbackStartAbsorbsUnissuedEntries :=
  fun kind fromControl _ hn hb => startRollback_eq kind fromControl hn hb

end Sys2Proof.FramePath
end

/-! ## The abort actions of faults, and the expiry of the deadline (R84, R85, R89, R118, R120, R123, R125, R155) -/

section
namespace Sys2Proof.FaultPath

open Sys2Proof Sys2Proof.Machine Sys2Proof.AccessPath Sys2Proof.UndoLog Sys2Proof.FramePath

variable {s w : State} {o : Host.Outcome State Fault Refusal}

/-! ### The abort request of a fault source (R84, R85, R89) -/

/-- With a frame on the stack and no rollback in flight, a rollback starts that owes no answer. -/
theorem requestAbort_starts (hp : s.engine.phase = .idle) (hf : s.frames.stack ≠ []) (hn : (s.up.txns.map Txn.tag).Nodup)
    (hb : s.frames.barrier ≠ none → s.ctl.handshake = .working .openFrame) (all : Bool) :
    s.requestAbort (abortKind all) false = Effect.rollbackStarted s all .none := by
  have hdepth : s.depth ≠ 0 := fun h => hf (List.length_eq_zero_iff.1 h)
  unfold State.requestAbort
  rw [if_neg (by simp [rollingBack_eq_false_iff.2 hp]), if_neg hdepth, startRollback_eq _ _ hn hb]
  cases all <;> rfl

/-- During a rollback the target moves down, and the answer owed stays. -/
theorem requestAbort_lowers {n : Nat} (hp : s.engine.phase ≠ .idle) (ht : s.engine.target = some n) (all : Bool) :
    s.requestAbort (abortKind all) false = { s with engine.target := some (if all then 0 else n - 1) } := by
  unfold State.requestAbort RollbackEngine.overtake
  rw [if_pos (rollingBack_iff.2 hp), ht]
  cases all <;> rfl

/-- An event that settles after the abort request of a fault source. -/
theorem faultAborts_of_settle {all : Bool} (h : o = .next (w.requestAbort (abortKind all) false).settle)
    (hr : w.rstN = true) : Effect.FaultAborts o w all := by
  refine ⟨fun hp hf => ?_, fun n hp ht => ?_, fun hp hf hn hb => ?_⟩
  · rw [requestAbort_of_noFrame hp hf, if_neg Bool.false_ne_true] at h
    exact gives_of_settle h hr
  · rw [requestAbort_lowers hp ht] at h
    exact gives_of_settle h hr
  · rw [requestAbort_starts hp hf hn hb] at h
    refine gives_of_settle h ?_
    rw [rollbackStarted_eq]
    split <;> exact hr

/-- In ACTIVE an abort action posts FAULT_TAKEN, and its request reaches the Rollback Engine (R118). -/
theorem actOnFault_abort (hm : s.mode.state = .active) (x : FaultSource) (all : Bool) :
    s.actOnFault x (if all then .abortAll else .abort) =
      (Effect.faultPosted s x (if all then .abortAll else .abort)).requestAbort (abortKind all) false := by
  rw [← postFault_eq_faultPosted]
  unfold State.actOnFault
  rw [hm]
  cases all <;> rfl

/-- An event that settles after an abort action in ACTIVE. -/
theorem faultAborts_of_actOnFault {x : FaultSource} {all : Bool}
    (h : o = .next (s.actOnFault x (if all then .abortAll else .abort)).settle) (hr : s.rstN = true)
    (hm : s.mode.state = .active) :
    Effect.FaultAborts o (Effect.faultPosted s x (if all then .abortAll else .abort)) all := by
  rw [actOnFault_abort hm] at h
  exact faultAborts_of_settle h hr

/-! ### Fault lines and FORCE_ABORT -/

theorem exec_forceAbort {all : Bool} (h : s.ready (.forceAbort (if all then 0x01#8 else 0x00#8)) = true)
    (hm : s.mode.state = .active) :
    exec (.forceAbort (if all then 0x01#8 else 0x00#8)) s =
      .next (State.actOnFault { s with link.frame := .answered [0x00#8] false 0 } .supervisor
        (if all then .abortAll else .abort)).settle := by
  show execForceAbort _ s = _
  unfold execForceAbort
  rw [if_pos h, hm]
  cases all <;> rfl

/-- Settles O33: each of the two commands acts on the fault by its abort action. -/
theorem abortFaultsReachTheRollbackEngine : Obligations.AbortFaultsReachTheRollbackEngine := by
  intro i source all v s hm hcase
  obtain ⟨l, rfl, rfl, hr, hl, ha, rfl⟩ | ⟨rfl, rfl, hready, rfl⟩ := hcase
  · have hexec := exec_takeFault hr hl
    rw [ha] at hexec
    exact faultAborts_of_actOnFault hexec hr hm
  · have hr : s.rstN = true := rstN_of_ready hready
    exact faultAborts_of_actOnFault (exec_forceAbort hready hm) hr hm

/-! ### The deadline (R125) -/

/-- An event that settles after an expiry of the deadline in ACTIVE. -/
theorem deadlineActs_of_settle (h : o = .next s.expireDeadline.settle) (hr : s.rstN = true) (hm : s.mode.state = .active) :
    Effect.DeadlineActs o s := by
  have hexpire : s.expireDeadline = (Effect.deadlineStopped s).actOnFault .deadline s.flt.actions.deadline := rfl
  rw [hexpire] at h
  refine ⟨fun ha => ?_, fun ha => ?_, fun all ha => ?_⟩
  · rw [ha, actOnFault_ignore] at h
    exact gives_of_settle h hr
  · rw [ha, actOnFault_note] at h
    exact gives_of_settle h hr
  · rw [ha] at h
    exact faultAborts_of_actOnFault h hr hm

/-- Settles O35: the expiry is due, and the event is that of the expiry. -/
theorem deadlineExpiryRaisesItsSource : Obligations.DeadlineExpiryRaisesItsSource := by
  intro s hr hm hd
  have hdue : s.deadlineDue = true := by simp [State.deadlineDue, hr, hd]
  exact deadlineActs_of_settle (congrArg Host.Outcome.next (if_pos hdue)) hr hm

/-! ### Ticks (R123) -/

theorem exec_trefPulse (hr : s.rstN = true) : exec .trefPulse s = .next s.countPulse.settle :=
  congrArg Host.Outcome.next (if_pos hr)

/-- Below the divisor a pulse is counted. -/
theorem countPulse_of_lt (h : s.flt.pulses + 1 < s.flt.divisor) :
    s.countPulse = { s with flt.pulses := s.flt.pulses + 1 } := if_neg (Nat.not_le.2 h)

/-- At the divisor a tick occurs: the hold timer takes it, then the deadline counter. -/
theorem countPulse_of_eq (h : s.flt.divisor = s.flt.pulses + 1) :
    s.countPulse = State.tickDeadline (State.tickHold { s with flt.pulses := 0, flt.ticks := s.flt.ticks + 1 }) :=
  if_pos h.le

/-- A hold timer below its limit counts the tick, if it runs (R78). -/
theorem tickHold_of_lt (h : s.log.hold.running = true → s.log.hold.value + 1 < s.mode.holdLimit) :
    s.tickHold = { s with log.hold.value := if s.log.hold.running then s.log.hold.value + 1 else s.log.hold.value } := by
  unfold State.tickHold
  by_cases hrun : s.log.hold.running = true
  · rw [if_pos hrun, if_pos hrun]
    exact if_neg (Nat.not_le.2 (h hrun))
  · rw [if_neg hrun, if_neg hrun]

theorem tickDeadline_of_stopped (h : s.flt.deadline.running = false) : s.tickDeadline = s := if_neg (by simp [h])

/-- A running deadline counter goes down by one. -/
theorem tickDeadline_of_succ {n : Nat} (hrun : s.flt.deadline.running = true) (h : s.flt.deadline.value = n + 2) :
    s.tickDeadline = { s with flt.deadline.value := n + 1 } := by
  unfold State.tickDeadline
  rw [if_pos hrun, h]
  exact if_neg (Nat.succ_ne_zero n)

/-- At 1 the tick expires it (R125). -/
theorem tickDeadline_of_one (hrun : s.flt.deadline.running = true) (h : s.flt.deadline.value = 1) :
    s.tickDeadline = State.expireDeadline { s with flt.deadline.value := 0 } := by
  unfold State.tickDeadline
  rw [if_pos hrun, h]
  exact if_pos rfl

/-- Settles O34: a pulse is counted or makes a tick, which the hold timer counts, and then the deadline counter. -/
theorem pulsesMakeTicks : Obligations.PulsesMakeTicks := by
  intro s hr
  have hexec := exec_trefPulse hr
  refine ⟨fun hlt => ?_, fun heq hhold => ?_⟩
  · rw [countPulse_of_lt hlt] at hexec
    exact gives_of_settle hexec hr
  have hticked : State.tickHold { s with flt.pulses := 0, flt.ticks := s.flt.ticks + 1 } = Effect.ticked s :=
    tickHold_of_lt (s := { s with flt.pulses := 0, flt.ticks := s.flt.ticks + 1 }) hhold
  rw [countPulse_of_eq heq, hticked] at hexec
  refine ⟨fun hrun => ?_, fun n hrun hvalue => ?_, fun hrun hvalue hm => ?_⟩
  · rw [tickDeadline_of_stopped (s := Effect.ticked s) hrun] at hexec
    exact gives_of_settle hexec hr
  · rw [tickDeadline_of_succ (s := Effect.ticked s) hrun hvalue] at hexec
    exact gives_of_settle hexec hr
  · rw [tickDeadline_of_one (s := Effect.ticked s) hrun hvalue] at hexec
    exact deadlineActs_of_settle (s := Effect.ticked s) hexec hr hm

end Sys2Proof.FaultPath
end

/-! ## Folds and breaks of frames, and the waiting writes judged again (R10, R11, R14, R15, R43, R73, R75) -/

section
namespace Sys2Proof.FramePath

open Sys2Proof Sys2Proof.Machine Sys2Proof.AccessPath Sys2Proof.UndoLog

variable {s t : State}

/-! ### Reclaiming (R73, R75) -/

/-- A reclaiming event moves the tail, discards the records below it, and stops the hold timer where it leaves space. -/
theorem reclaim_eq (s : State) (q : Seq) :
    s.reclaim q =
      { s with
        log := { s.log.moveTail q with
          hold := if (s.log.head - q).toNat < s.win.capacity then timerStopped else s.log.hold } } := by
  unfold State.reclaim State.logCount
  dsimp only
  split
  · rename_i h
    exact congrArg (fun hold => { s with log := { s.log.moveTail q with hold := hold } }) (if_pos h).symm
  · rename_i h
    exact congrArg (fun hold => { s with log := { s.log.moveTail q with hold := hold } }) (if_neg h).symm

/-! ### The fold (R10, R11) -/

/-- Settles O26: the records go where the bottom is BROKEN and the absorbed frame INTACT. -/
theorem foldJoinsTheTwoBottomFrames : Obligations.FoldJoinsTheTwoBottomFrames := by
  intro b a g rest s hstack t folded broken
  have hdepth : s.frames.stack.length - 1 = (g :: rest).length + 1 := by simp [hstack]
  by_cases hreclaims : b.status = .broken ∧ a.status = .intact
  · obtain ⟨hb, ha⟩ := hreclaims
    have ht : t = State.post (State.reclaim (State.post { s with frames.stack := { b with folded := true } :: g :: rest }
        (.framesFolded a.serial) b.serial) g.start) (.frameBroken .fold) a.serial := by
      show s.fold = _
      unfold State.fold
      rw [hstack]
      exact if_pos (by rw [hb, ha]; rfl)
    rw [ht, reclaim_eq]
    refine ⟨rfl, rfl, rfl, rfl, rfl, rfl, rfl, rfl, rfl, rfl, rfl, fun _ _ => ⟨rfl, rfl, ?_⟩, fun h => ?_⟩
    · unfold folded broken
      rw [hdepth]
      rfl
    · simp [hb, ha] at h
  · have ht : t = State.post { s with frames.stack := { b with folded := true } :: g :: rest }
        (.framesFolded a.serial) b.serial := by
      show s.fold = _
      unfold State.fold
      rw [hstack]
      exact if_neg (by simpa using hreclaims)
    rw [ht]
    refine ⟨rfl, rfl, rfl, rfl, rfl, rfl, rfl, rfl, rfl, rfl, rfl, fun hb ha => absurd ⟨hb, ha⟩ hreclaims, fun _ => ⟨rfl, ?_⟩⟩
    unfold folded
    rw [hdepth]
    rfl

/-! ### The waiting writes judged again (R43) -/

/-- The write with a tag needs no capture, and leaves the wait list. -/
def leavesList (s : State) (k : Tag) : Bool := (s.findTxn k).any fun e => !Effect.needsCapture s e

/-- An entry whose write is issued. -/
def issuedEntry (issued : List Tag) (e : Txn) : Txn := if issued.contains e.tag then { e with stage := .issued } else e

/-- The writes with the tags `issued` leave the wait list and are issued, in the order of the list. -/
def issuedTogether (s : State) (issued : List Tag) : State :=
  { s with
    up.txns := s.up.txns.map (issuedEntry issued)
    frames.barrier := s.frames.barrier.map (·.filter fun k => !issued.contains k)
    cap.waitList := s.cap.waitList.filter fun k => !issued.contains k
    down.waiting := s.down.waiting ++ (issued.filterMap s.findTxn).map Effect.ownRequest }

/-- An issue is a change of stage. -/
theorem issuedEntry_eq (issued : List Tag) (e : Txn) : ∃ st, issuedEntry issued e = { e with stage := st } := by
  unfold issuedEntry
  split
  · exact ⟨.issued, rfl⟩
  · exact ⟨e.stage, rfl⟩

theorem issuedEntry_tag (issued : List Tag) (e : Txn) : (issuedEntry issued e).tag = e.tag := by
  obtain ⟨st, h⟩ := issuedEntry_eq issued e
  rw [h]

theorem ownRequest_issuedEntry (issued : List Tag) (e : Txn) :
    Effect.ownRequest (issuedEntry issued e) = Effect.ownRequest e := by
  obtain ⟨st, h⟩ := issuedEntry_eq issued e
  rw [h]
  rfl

theorem needsCapture_issuedEntry (issued : List Tag) (e : Txn) :
    Effect.needsCapture s (issuedEntry issued e) = Effect.needsCapture s e := by
  obtain ⟨st, h⟩ := issuedEntry_eq issued e
  rw [h]
  rfl

theorem findTxn_issuedTogether (issued : List Tag) (k : Tag) :
    (issuedTogether s issued).findTxn k = (s.findTxn k).map (issuedEntry issued) := by
  unfold State.findTxn issuedTogether
  rw [List.find?_map]
  simp only [Function.comp_def, issuedEntry_tag]

/-- An issue changes no decision (Table 3.1). -/
theorem leavesList_issuedTogether (issued : List Tag) : leavesList (issuedTogether s issued) = leavesList s := by
  funext k
  have hneeds (e : Txn) : Effect.needsCapture (issuedTogether s issued) (issuedEntry issued e) = Effect.needsCapture s e :=
    needsCapture_issuedEntry (s := s) issued e
  unfold leavesList
  rw [findTxn_issuedTogether, Option.any_map]
  simp only [hneeds]

theorem issuedEntry_nil : issuedEntry [] = id := by
  funext e
  simp [issuedEntry]

theorem issuedTogether_nil : issuedTogether s [] = s := by simp [issuedTogether, issuedEntry_nil]

theorem issuedTogether_append (l m : List Tag) :
    issuedTogether (issuedTogether s l) m = issuedTogether s (l ++ m) := by
  have hentry (e : Txn) : issuedEntry m (issuedEntry l e) = issuedEntry (l ++ m) e := by
    by_cases hl : e.tag ∈ l <;> by_cases hm : e.tag ∈ m <;> simp [issuedEntry, hl, hm]
  have hfilter (ks : List Tag) :
      (ks.filter fun k => !l.contains k).filter (fun k => !m.contains k) = ks.filter fun k => !(l ++ m).contains k := by
    rw [List.filter_filter]
    refine List.filter_congr fun k _ => ?_
    rw [List.contains_append, Bool.not_or, Bool.and_comm]
  have hown : (m.filterMap (issuedTogether s l).findTxn).map Effect.ownRequest =
      (m.filterMap s.findTxn).map Effect.ownRequest := by
    rw [List.map_filterMap, List.map_filterMap]
    refine List.filterMap_congr fun k _ => ?_
    rw [findTxn_issuedTogether, Option.map_map]
    exact congrArg (Option.map · _) (funext fun e => ownRequest_issuedEntry l e)
  refine state_ext rfl rfl ?up ?cap rfl ?frames rfl rfl rfl ?down rfl rfl rfl rfl rfl
  case up =>
    refine congrArg (fun l => { s.up with txns := l }) ((List.map_map ..).trans (List.map_congr_left fun e _ => ?_))
    exact hentry e
  case cap => exact congrArg (fun ks => { s.cap with waitList := ks }) (hfilter _)
  case frames =>
    refine congrArg (fun b => { s.frames with barrier := b }) ((Option.map_map ..).trans ?_)
    exact congrArg (Option.map · _) (funext hfilter)
  case down =>
    refine congrArg (fun l => { s.down with waiting := l }) (?_ : (_ ++ _) ++ List.map _ _ = _)
    rw [hown, List.append_assoc, ← List.map_append, ← List.filterMap_append]

/-- One waiting write judged again is issued, or stays as it is (R43). -/
theorem rejudgeOne_eq (s : State) (k : Tag) : s.rejudgeOne k = issuedTogether s ([k].filter (leavesList s)) := by
  unfold State.rejudgeOne
  cases hf : s.findTxn k with
  | none => simp [leavesList, hf, issuedTogether_nil]
  | some e =>
    have htag := (findTxn_mem hf).2
    dsimp only
    rw [needsCapture_eq]
    cases hc : Effect.needsCapture s e with
    | true => simp [leavesList, hf, hc, issuedTogether_nil]
    | false =>
      have hleaves : [k].filter (leavesList s) = [k] := by simp [leavesList, hf, hc]
      rw [hleaves, if_neg Bool.false_ne_true]
      subst htag
      refine state_ext rfl rfl ?_ ?_ rfl ?_ rfl rfl rfl ?_ rfl rfl rfl rfl rfl
      · refine congrArg (fun l => { s.up with txns := l }) (List.map_congr_left fun o _ => ?_)
        simp [issuedEntry]
      · simp [issuedTogether, bne, beq_eq_decide]
      · simp [issuedTogether, bne, beq_eq_decide]
      · simp [issuedTogether, hf, Effect.ownRequest]

/-- Waiting writes judged one after another are judged together. -/
theorem foldl_rejudgeOne (l : List Tag) (s : State) :
    l.foldl State.rejudgeOne s = issuedTogether s (l.filter (leavesList s)) := by
  induction l generalizing s with
  | nil => exact issuedTogether_nil.symm
  | cons k l ih =>
    rw [List.foldl_cons, ih, rejudgeOne_eq, leavesList_issuedTogether, issuedTogether_append, ← List.filter_append]
    rfl

/-- The waiting writes are judged again as the statements write it (R43, R78). -/
theorem rejudge_eq_rejudged (s : State) : s.rejudge = Effect.rejudged s := by
  have hkept : s.cap.waitList.filter (fun k => !(s.cap.waitList.filter (leavesList s)).contains k) =
      s.cap.waitList.filter fun k => !leavesList s k := by
    refine List.filter_congr fun k hk => congrArg not (Bool.eq_iff_iff.2 ?_)
    rw [List.contains_iff_mem, List.mem_filter]
    exact and_iff_right hk
  have hend : Effect.rejudged s =
      { issuedTogether s (s.cap.waitList.filter (leavesList s)) with
        log.hold := if (issuedTogether s (s.cap.waitList.filter (leavesList s))).cap.waitList.isEmpty then timerStopped
          else s.log.hold } := by
    refine state_ext rfl rfl rfl ?_ ?_ rfl rfl rfl rfl rfl rfl rfl rfl rfl rfl
    · exact congrArg (fun ks => { s.cap with waitList := ks }) hkept.symm
    · exact congrArg (fun ks : List Tag => { s.log with hold := if ks.isEmpty then timerStopped else s.log.hold }) hkept.symm
  rw [hend]
  unfold State.rejudge
  rw [foldl_rejudgeOne]
  dsimp only
  split
  · rfl
  · rfl

/-- Where no write needs a capture, none that is in the table is left waiting, and each is issued. -/
theorem rejudge_of_noCapture (hno : ∀ e, Effect.needsCapture s e = false)
    (hfound : ∀ k ∈ s.cap.waitList, (s.findTxn k).isSome = true) :
    s.rejudge.cap.waitList = [] ∧ ∀ k ∈ s.cap.waitList, ∀ e ∈ s.rejudge.up.txns, e.tag = k → e.stage = .issued := by
  have hleaves {k : Tag} (hk : k ∈ s.cap.waitList) : leavesList s k = true := by
    obtain ⟨e, he⟩ := Option.isSome_iff_exists.1 (hfound k hk)
    simp [leavesList, he, hno]
  rw [rejudge_eq_rejudged]
  refine ⟨List.filter_eq_nil_iff.2 fun k hk => ?_, fun k hk e he htag => ?_⟩
  · exact Bool.eq_false_iff.1 (congrArg not (hleaves hk))
  · obtain ⟨o, ho, rfl⟩ := List.mem_map.1 he
    have hcontains : (s.cap.waitList.filter (leavesList s)).contains o.tag = true := by
      have hotag : o.tag = k := (issuedEntry_tag (s.cap.waitList.filter (leavesList s)) o).symm.trans htag
      rw [List.contains_iff_mem, List.mem_filter, hotag]
      exact ⟨hk, hleaves hk⟩
    exact congrArg Txn.stage (if_pos hcontains)

/-! ### The break of a frame (R15) -/

/-- The frame `f` over the BROKEN frames `lows` becomes BROKEN; the waiting writes are not judged yet. -/
def frameBroken (s : State) (lows above : List Frame) (f : Frame) (cause : BreakCause) : State :=
  (({ s with frames.stack := lows ++ { f with status := .broken } :: above } : State).reclaim
    ((above.head?.map Frame.start).getD s.log.head)).post (.frameBroken cause) f.serial

/-- The break falls on the lowest INTACT frame; that of the top judges the waiting writes again (R15, R43). -/
theorem breakLowest_eq {lows above : List Frame} {f : Frame} (hstack : s.frames.stack = lows ++ f :: above)
    (hlows : ∀ g ∈ lows, g.status = .broken) (hf : f.status = .intact) (cause : BreakCause) :
    s.breakLowest cause =
      if above.isEmpty then (frameBroken s lows above f cause).rejudge else frameBroken s lows above f cause := by
  have hlows' : ∀ g ∈ lows, (g.status == .broken) = true := fun g hg => by simp [hlows g hg]
  have hdrop : s.frames.stack.dropWhile (·.status == .broken) = f :: above := by
    rw [hstack, List.dropWhile_append_of_pos hlows', List.dropWhile_cons_of_neg (by simp [hf])]
  have htake : s.frames.stack.takeWhile (·.status == .broken) = lows := by
    rw [hstack, List.takeWhile_append_of_pos hlows', List.takeWhile_cons_of_neg (by simp [hf]), List.append_nil]
  unfold State.breakLowest
  rw [hdrop, htake]
  rfl

/-- Under a BROKEN top no write needs a capture (Table 3.1). -/
theorem needsCapture_of_brokenTop {g : Frame} (hg : s.frames.stack.getLast? = some g) (hb : g.status = .broken) (e : Txn) :
    Effect.needsCapture s e = false := by
  unfold Effect.needsCapture
  simp [hg, hb]

/-- What the judging leaves of the frames, the link and the log, in which it stops the hold timer at most. -/
theorem rejudge_leaves (s : State) :
    s.rejudge.frames.stack = s.frames.stack ∧ s.rejudge.link = s.link ∧
      (s.rejudge.log = s.log ∨ s.rejudge.log = { s.log with hold := timerStopped }) := by
  rw [rejudge_eq_rejudged]
  unfold Effect.rejudged
  dsimp only
  refine ⟨rfl, rfl, ?_⟩
  split
  · exact .inr rfl
  · exact .inl rfl

/-- A break moves the tail, discards the records below it, and stops the hold timer where it leaves space. -/
theorem frameBroken_log (lows above : List Frame) (f : Frame) (cause : BreakCause) :
    (frameBroken s lows above f cause).log =
      { s.log.moveTail ((above.head?.map Frame.start).getD s.log.head) with
        hold :=
          if (s.log.head - (above.head?.map Frame.start).getD s.log.head).toNat < s.win.capacity then timerStopped
          else s.log.hold } := by
  unfold frameBroken
  rw [reclaim_eq]
  rfl

theorem frameBroken_stack (lows above : List Frame) (f : Frame) (cause : BreakCause) :
    (frameBroken s lows above f cause).frames.stack = lows ++ { f with status := .broken } :: above := by
  unfold frameBroken
  rw [reclaim_eq]
  rfl

theorem frameBroken_link {lows above : List Frame} {f : Frame} (h : s.frames.stack = lows ++ f :: above)
    (cause : BreakCause) :
    (frameBroken s lows above f cause).link = s.link.post
      { body := .frameBroken cause, stamp := s.flt.ticks, depth := s.frames.stack.length, serial := f.serial } := by
  have hdepth : s.frames.stack.length = (lows ++ { f with status := .broken } :: above).length := by simp [h]
  unfold frameBroken
  rw [reclaim_eq, hdepth]
  rfl

/-- It leaves the other blocks. -/
theorem frameBroken_up_cap_down (lows above : List Frame) (f : Frame) (cause : BreakCause) :
    (frameBroken s lows above f cause).up = s.up ∧ (frameBroken s lows above f cause).cap = s.cap ∧
      (frameBroken s lows above f cause).down = s.down := by
  unfold frameBroken
  rw [reclaim_eq]
  exact ⟨rfl, rfl, rfl⟩

/-- Settles O36: a break of the top only judges the waiting writes after that, and under a BROKEN top all of them leave the
list. -/
theorem breakFallsOnTheLowestIntactFrame : Obligations.BreakFallsOnTheLowestIntactFrame := by
  intro lows above f cause s hstack hlows hf t tail
  obtain ⟨u, hu⟩ : ∃ u, u = frameBroken s lows above f cause := ⟨_, rfl⟩
  have ht : t = if above.isEmpty then u.rejudge else u := hu ▸ breakLowest_eq hstack hlows hf cause
  obtain ⟨hup, hcap, hdown⟩ := frameBroken_up_cap_down (s := s) lows above f cause
  have hstack' := frameBroken_stack (s := s) lows above f cause
  have hlink := frameBroken_link hstack cause
  have hlog := frameBroken_log (s := s) lows above f cause
  rw [← hu] at hup hcap hdown hstack' hlink hlog
  have hrest : t.frames.stack = u.frames.stack ∧ t.link = u.link ∧
      (t.log = u.log ∨ t.log = { u.log with hold := timerStopped }) := by
    rw [ht]
    split
    · exact rejudge_leaves u
    · exact ⟨rfl, rfl, .inl rfl⟩
  obtain ⟨hts, htl, htlog⟩ := hrest
  refine ⟨hts.trans hstack', ?_, ?_, ?_, htl.trans hlink, fun hspace => ?_, fun hne => ?_, fun hnil hfound => ?_⟩
  · rcases htlog with h | h <;> rw [h, hlog] <;> rfl
  · rcases htlog with h | h <;> rw [h, hlog] <;> rfl
  · rcases htlog with h | h <;> rw [h, hlog] <;> rfl
  · rcases htlog with h | h
    · rw [State.logCount, h, hlog] at hspace
      rw [h, hlog]
      exact if_pos hspace
    · rw [h]
      rfl
  · rw [ht, if_neg (by simpa using hne)]
    exact ⟨hup, hcap, hdown⟩
  · rw [ht, if_pos (by simp [hnil])]
    have htop : u.frames.stack.getLast? = some { f with status := .broken } := by simp [hstack', hnil]
    have h := rejudge_of_noCapture (needsCapture_of_brokenTop htop rfl) (s := u)
    rw [hcap] at h
    exact h (by unfold State.findTxn; rw [hup]; exact hfound)

end Sys2Proof.FramePath
end

/-! ## COMMIT (R13, R14, R43, R73, R75, R78, R79, R109, R124, R126) -/

section
namespace Sys2Proof.FramePath

open Sys2Proof Sys2Proof.Machine Sys2Proof.AccessPath Sys2Proof.UndoLog

variable {s t u : State}

/-! ### The top frame goes -/

/-- A record write whose staged record the reclaiming discards is orphaned (R72). -/
theorem orphanIf_eq_orphanedBelow (s : State) :
    WriterJob.orphanIf (fun q => s.log.staging.any fun e => e.seq == q && seqBelow e.seq s.log.head) =
      Effect.orphanedBelow s := by
  funext j
  unfold WriterJob.orphanIf Effect.orphanedBelow
  dsimp only
  split
  · rename_i h
    rw [h, Bool.or_true]
  · rename_i h
    rw [Bool.not_eq_true] at h
    rw [h, Bool.or_false]

/-- A reclaiming event up to the head empties the log (R73, R75). -/
theorem reclaim_head (s : State) :
    s.reclaim s.log.head =
      { s with
        log.tail := s.log.head
        log.staging := s.log.staging.filter fun e => !seqBelow e.seq s.log.head
        log.writer := s.log.writer.map (Effect.orphanedBelow s)
        log.hold := if 0 < s.win.capacity then timerStopped else s.log.hold } := by
  have hcount : (s.log.head - s.log.head).toNat = 0 := by rw [BitVec.sub_self]; rfl
  rw [reclaim_eq, hcount]
  unfold LogUnit.moveTail
  rw [orphanIf_eq_orphanedBelow]

theorem rejudge_answer (s : State) (a : CtlAnswer) : s.rejudge.answer a = (s.answer a).rejudge := by
  rw [rejudge_eq_rejudged, rejudge_eq_rejudged]
  rfl

/-- A COMMIT that is carried out leaves what the statements write, with the waiting writes judged again (R14, R43). -/
theorem commit_eq {below : List Frame} {f : Frame} (h : s.frames.stack = below ++ [f]) :
    (s.takeRequest .commit).commitTop.answer .done = Effect.rejudged (Effect.committed s below f) := by
  obtain ⟨v, hv⟩ : ∃ v : State, v = { s.takeRequest .commit with frames.stack := below } := ⟨_, rfl⟩
  have hreclaim : v.reclaim v.log.head = _ := reclaim_head v
  have htop : (s.takeRequest .commit).top = some f := by simp [State.top, State.takeRequest, h]
  have hdrop : ({ s.takeRequest .commit with frames.stack := (s.takeRequest .commit).frames.stack.dropLast } : State) = v := by
    simp [hv, State.takeRequest, h]
  have hvtop : v.top = below.getLast? := hv ▸ rfl
  have hhead : (s.takeRequest .commit).log.head = v.log.head := hv ▸ rfl
  rw [← rejudge_eq_rejudged]
  unfold State.commitTop
  rw [htop]
  dsimp only
  rw [hdrop, hvtop, hhead, hreclaim]
  cases hg : below.getLast? with
  | none =>
    obtain rfl := List.getLast?_eq_none_iff.1 hg
    rw [hv]
    exact rejudge_answer _ _
  | some g =>
    obtain ⟨low, rfl⟩ := List.getLast?_eq_some_iff.1 hg
    refine (rejudge_answer _ _).trans (congrArg State.rejudge ?_)
    have hne : (low ++ [g]).isEmpty = false := by simp
    have hemptied : ((low ++ [g]).isEmpty || f.status == .intact && ((some g).map Frame.status == some .broken)) =
        (f.status == .intact && g.status == .broken) := by
      rw [hne]
      rfl
    unfold Effect.committed
    rw [hg]
    dsimp only
    rw [hemptied, hne, hv]
    cases f.status == .intact && g.status == .broken with
    | true =>
      refine state_ext rfl rfl rfl rfl ?_ rfl rfl rfl rfl rfl rfl rfl rfl rfl rfl
      have hhold : (if (false || true && decide (0 < s.win.capacity)) = true then timerStopped else s.log.hold) =
          if 0 < s.win.capacity then timerStopped else s.log.hold := by simp
      exact congrArg (fun hold => ({ s.log with
        tail := s.log.head
        staging := s.log.staging.filter fun e => !seqBelow e.seq s.log.head
        writer := s.log.writer.map (Effect.orphanedBelow s)
        hold := hold } : LogUnit)) hhold.symm
    | false => rfl

theorem exec_commit (hr : s.rstN = true) (hc : s.ctl.creq = false) (hh : s.ctl.handshake = .idle)
    (hm : s.mode.state = .active) (hp : s.engine.phase = .idle) {below : List Frame} {f : Frame}
    (h : s.frames.stack = below ++ [f]) :
    exec .commit s = .next (Effect.rejudged (Effect.committed s below f)).settle := by
  have hdepth : (s.takeRequest .commit).depth ≠ 0 := by simp [State.depth, State.takeRequest, h]
  have hdeal : (s.takeRequest .commit).dealCommit = (s.takeRequest .commit).commitTop.answer .done := by
    unfold State.dealCommit
    rw [if_neg (by simp [State.rollingBack, State.takeRequest, hp]), if_neg hdepth]
  rw [← commit_eq h, ← hdeal]
  exact congrArg Host.Outcome.next (controlRise_active hr hc hh hm .commit _)

/-! ### An event without frames

Once the last frame is gone, only turns, acceptances, the log writer and the arbiter's grants are due. None of them moves the
head or the tail, starts the hold timer, makes a write wait for a capture, or takes an issued entry back. -/

/-- An entry with the tag is in the table, and each such entry is issued. -/
def IssuedIn (k : Tag) (s : State) : Prop := k ∈ s.up.txns.map Txn.tag ∧ ∀ e ∈ s.up.txns, e.tag = k → e.stage = .issued

/-- What an event without frames leaves. -/
structure Quiet (s t : State) : Prop where
  stack : t.frames.stack = s.frames.stack
  head : t.log.head = s.log.head
  tail : t.log.tail = s.log.tail
  hold : t.log.hold = s.log.hold
  ctl : t.ctl = s.ctl
  waitList : t.cap.waitList = s.cap.waitList
  issued : ∀ k, IssuedIn k s → IssuedIn k t

theorem Quiet.refl (s : State) : Quiet s s := ⟨rfl, rfl, rfl, rfl, rfl, rfl, fun _ => id⟩

theorem Quiet.trans (h : Quiet s t) (k : Quiet t u) : Quiet s u where
  stack := k.stack.trans h.stack
  head := k.head.trans h.head
  tail := k.tail.trans h.tail
  hold := k.hold.trans h.hold
  ctl := k.ctl.trans h.ctl
  waitList := k.waitList.trans h.waitList
  issued x hx := k.issued x (h.issued x hx)

/-- Changes of stages other than of an issued entry to another. -/
theorem IssuedIn.setStage {k x : Tag} {st : Stage} (h : IssuedIn k s) (hx : x = k → st = .issued) :
    IssuedIn k (s.setStage x st) := by
  obtain ⟨hmem, hissued⟩ := h
  refine ⟨(setStage_sameEntries s.up x st).tags_eq.symm ▸ hmem, fun e he htag => ?_⟩
  · obtain ⟨hex, hst⟩ | ⟨-, he⟩ := mem_setStage he
    · exact hst.trans (hx (hex.symm.trans htag))
    · exact hissued e he htag

theorem issue_quiet (s : State) (e : Txn) : Quiet s (s.issue e) :=
  ⟨rfl, rfl, rfl, rfl, rfl, rfl, fun _ hk => hk.setStage fun _ => rfl⟩

/-- Without frames an entry that proceeds is issued (Table 3.1). -/
theorem proceed_of_noFrame (h : s.frames.stack = []) (e : Txn) : s.proceed e = s.issue e := by
  rw [proceed_eq, needsCapture_of_noFrame h, Bool.and_false]
  rfl

theorem wake_quiet (h : s.frames.stack = []) : Quiet s s.wake := by
  unfold State.wake
  generalize s.up.txns.map Txn.tag = l
  induction l generalizing s with
  | nil => exact .refl s
  | cons k l ih =>
    have hone : Quiet s (s.wakeOne k) := by
      unfold State.wakeOne
      repeat' split
      · exact .refl s
      · exact proceed_of_noFrame h _ ▸ issue_quiet s _
      · exact .refl s
    exact hone.trans (ih (hone.stack.trans h))

/-- A new entry does not carry a tag in use. -/
theorem enroll_quiet (h : s.frames.stack = []) {e : Txn} (he : e.tag ∉ s.up.txns.map Txn.tag) : Quiet s (s.enroll e) := by
  obtain ⟨v, hv⟩ : ∃ v : State, v = { s with up.txns := s.up.txns ++ [e], up.nextAge := s.up.nextAge + 1 } := ⟨_, rfl⟩
  have hadded : Quiet s v := by
    refine hv ▸ ⟨rfl, rfl, rfl, rfl, rfl, rfl, fun k hk => ⟨?_, fun o ho htag => ?_⟩⟩
    · rw [List.map_append]
      exact List.mem_append_left _ hk.1
    · obtain ho | ho := List.mem_append.1 ho
      · exact hk.2 o ho htag
      · obtain rfl := List.mem_singleton.1 ho
        exact absurd (htag ▸ hk.1) he
  have hstaged (st : Stage) : Quiet s (v.setStage e.tag st) := by
    refine ⟨hadded.stack, hadded.head, hadded.tail, hadded.hold, hadded.ctl, hadded.waitList, fun k hk => ?_⟩
    exact (hadded.issued k hk).setStage fun htag => absurd (htag ▸ hk.1) he
  unfold State.enroll
  rw [← hv]
  dsimp only
  repeat' split
  · exact hstaged _
  · exact hstaged _
  · exact hadded.trans (proceed_of_noFrame (hadded.stack.trans h) e ▸ issue_quiet v e)
  · exact hadded

theorem acceptPresented_quiet (h : s.frames.stack = []) : Quiet s s.acceptPresented := by
  unfold State.acceptPresented
  split
  · exact .refl s
  · rename_i r _
    split
    · rename_i hcan
      obtain ⟨-, hnew⟩ := canAccept_iff.1 hcan
      have hcleared : Quiet s { s with up.presented := none } := ⟨rfl, rfl, rfl, rfl, rfl, rfl, fun _ => id⟩
      have hanswered (c : UpCode) : Quiet s (State.answerAtAcceptance { s with up.presented := none } r c) :=
        ⟨rfl, rfl, rfl, rfl, rfl, rfl, fun _ => id⟩
      have henrolled (region : AccessClass) :
          Quiet s (State.enroll { s with up.presented := none } (State.newTxn { s with up.presented := none } r region)) :=
        hcleared.trans (enroll_quiet (s := { s with up.presented := none }) h hnew)
      unfold State.accept
      repeat' split
      · exact hanswered _
      · exact hanswered _
      · exact henrolled .plain
      · exact hanswered _
      all_goals exact henrolled _
    · exact .refl s

theorem startWriter_quiet (s : State) : Quiet s s.startWriter := by
  unfold State.startWriter
  split
  · exact ⟨rfl, rfl, rfl, rfl, rfl, rfl, fun _ => id⟩
  · exact .refl s

theorem arbitrate_quiet (s : State) : Quiet s s.arbitrate := by
  obtain ⟨-, -, -, -, hentries, hcap, hlog, hframes, -, hctl, -, -, -, -, -, -⟩ := arbitrate_keeps s
  refine ⟨by rw [hframes], by rw [hlog], by rw [hlog], by rw [hlog], hctl, by rw [hcap], fun k hk => ⟨?_, fun e he htag => ?_⟩⟩
  · have htags := congrArg (List.map Txn.tag) hentries
    rw [List.map_map, List.map_map] at htags
    exact htags ▸ hk.1
  · have hmem : { e with data := none } ∈ s.up.txns.map fun e => { e with data := none } :=
      hentries ▸ List.mem_map_of_mem he
    obtain ⟨o, ho, heq⟩ := List.mem_map.1 hmem
    simp only [Txn.mk.injEq] at heq
    obtain ⟨hotag, -, -, -, -, -, -, -, hostage⟩ := heq
    exact hostage ▸ hk.2 o ho (hotag.trans htag)

/-- An event that begins without frames, without a barrier and without a rollback. -/
theorem settle_quiet (hrest : FramesAtRest s) (h : s.frames.stack = []) : Quiet s s.settle := by
  cases hr : s.rstN with
  | false =>
    rw [settle_of_reset hr]
    exact .refl s
  | true =>
    have hearly := (wake_quiet h).trans (acceptPresented_quiet ((wake_quiet h).stack.trans h))
    have hleft := (wake_framesLeft s).trans (acceptPresented_framesLeft s.wake)
    have h1 := hrest.of_left hleft
    have h2 := h1.of_left (startWriter_framesLeft _)
    have hbarrier : s.wake.acceptPresented.frames.barrier ≠ some [] := by simp [h1.barrier]
    simp only [State.settle, hr, if_true]
    rw [grantCaptures_of_nothing h1.nothingToGrant, barrierIfDone_of_ne hbarrier,
      grantCaptures_of_nothing h1.nothingToGrant, h2.quiesceIfOver_eq, h2.unwind_eq,
      grantCaptures_of_nothing h2.nothingToGrant]
    exact ((hearly.trans (startWriter_quiet _)).trans (startWriter_quiet _)).trans (arbitrate_quiet _)

/-- Settles O27: the event is that of the statements' effect; at depth 1 it begins without frames, so that the writes just
issued stay issued and no other write comes to wait. -/
theorem commitRemovesTheTopFrame : Obligations.CommitRemovesTheTopFrame := by
  intro f below s hr hc hh hm hp h
  have hexec := exec_commit hr hc hh hm hp h
  refine ⟨gives_of_settle hexec hr, ?_⟩
  rintro rfl hbarrier hfound
  obtain ⟨v, hv⟩ : ∃ v, v = Effect.committed s [] f := ⟨_, rfl⟩
  have hvstack : v.frames.stack = [] := hv ▸ rfl
  have hvwait : v.cap.waitList = s.cap.waitList := hv ▸ rfl
  have hvfound : ∀ k ∈ v.cap.waitList, (v.findTxn k).isSome = true := hv ▸ hfound
  have hnone (e : Txn) : Effect.needsCapture v e = false := by
    rw [← needsCapture_eq, needsCapture_of_noFrame hvstack]
  obtain ⟨hwait, hissued⟩ := rejudge_of_noCapture hnone hvfound
  obtain ⟨hstack, -, hlog⟩ := rejudge_leaves v
  have hctl : v.rejudge.ctl = v.ctl := by rw [rejudge_eq_rejudged]; rfl
  have hrest : FramesAtRest v.rejudge := by
    have hleft := rejudge_framesLeft v
    refine FramesAtRest.of_left ⟨?_, hv ▸ hbarrier, hv ▸ hp⟩ hleft
    rw [hvstack]
    exact List.forall_mem_nil _
  have hquiet := settle_quiet hrest (hstack.trans hvstack)
  rw [← hv, ← rejudge_eq_rejudged] at hexec
  have hhold : v.rejudge.log.hold = timerStopped ∧ v.rejudge.log.head = s.log.head ∧ v.rejudge.log.tail = s.log.head := by
    rcases hlog with h | h <;> rw [h, hv] <;> exact ⟨rfl, rfl, rfl⟩
  obtain ⟨hhold, hhead, htail⟩ := hhold
  refine ⟨_, hexec, hquiet.stack.trans (hstack.trans hvstack), hquiet.head.trans hhead, hquiet.tail.trans htail,
    hquiet.waitList.trans hwait, hquiet.hold.trans hhold, ?_, ?_, fun k hk => ?_⟩
  · rw [hquiet.ctl, hctl, hv]
    rfl
  · rw [hquiet.ctl, hctl, hv]
    rfl
  · have hk' : k ∈ v.cap.waitList := hvwait.symm ▸ hk
    obtain ⟨e, he⟩ := Option.isSome_iff_exists.1 (hvfound k hk')
    obtain ⟨hmem, rfl⟩ := findTxn_mem he
    have htag := (rejudge_moves v).sameEntries.tags_eq.symm ▸ List.mem_map_of_mem (f := Txn.tag) hmem
    exact (hquiet.issued e.tag ⟨htag, hissued e.tag hk'⟩).2

end Sys2Proof.FramePath
end

/-! ## The OPEN when its barrier completes (R3 to R8, R10, R34, R106, R124) -/

section
namespace Sys2Proof.FramePath

open Sys2Proof Sys2Proof.Machine Sys2Proof.AccessPath Sys2Proof.UndoLog

variable {s t u : State} {c : Serial} {wraps : Bool}

/-! ### The decision -/

theorem push_eq_pushed (s : State) (c : Serial) (wraps : Bool) (o : FrameOrigin) :
    s.push (c, wraps) o = Effect.pushed s c wraps o := by
  have hdepth : (s.frames.stack ++ [FrameDiscipline.newFrame s c o]).length = s.frames.stack.length + 1 := by simp
  unfold Effect.pushed
  rw [← hdepth]
  cases wraps <;> rfl

/-- The answer to the OPEN in hand, with its barrier ended (R106). -/
theorem answer_eq_openAnswered (hh : s.ctl.handshake = .working .openFrame) (a : CtlAnswer) :
    State.answer { s with frames.barrier := none } a = Effect.openAnswered s a := by
  refine congrArg (fun ctl => { s with frames.barrier := none, ctl := ctl }) ?_
  dsimp only
  rw [ctlAnswer_eq, hh]

/-- A fold has nothing to do with the barrier and the Control Port and the Capture Unit. -/
theorem fold_leaves (s : State) :
    State.fold { s with frames.barrier := none } = { s.fold with frames.barrier := none } ∧ s.fold.ctl = s.ctl ∧
      s.fold.cap = s.cap := by
  unfold State.fold
  dsimp only
  split
  · split
    · rw [reclaim_eq, reclaim_eq]
      exact ⟨rfl, rfl, rfl⟩
    · exact ⟨rfl, rfl, rfl⟩
  · exact ⟨rfl, rfl, rfl⟩

/-- The conditions of R7, tested in their order, are those of the statements. -/
theorem decideOpen_eq_openDecided (hh : s.ctl.handshake = .working .openFrame) (hdepth : s.frames.stack.length ≤ 8)
    (hchoice : s.chooseSerial = (c, wraps)) :
    State.decideOpen { s with frames.barrier := none } = Effect.openDecided s c wraps := by
  obtain ⟨hfold, hfctl, -⟩ := fold_leaves s
  have hchoice' : State.chooseSerial { s with frames.barrier := none } = (c, wraps) := hchoice
  have hfull : decide (Config.maxDepth ≤ State.depth { s with frames.barrier := none }) =
      decide (s.frames.stack.length = 8) :=
    decide_eq_decide.2 ⟨fun h => le_antisymm hdepth h, fun h => h.ge⟩
  unfold State.decideOpen Effect.openDecided
  dsimp only
  rw [hchoice', hfull, hfold, push_eq_pushed, push_eq_pushed]
  simp only [Bool.and_eq_true, decide_eq_true_eq, beq_iff_eq]
  split
  · exact answer_eq_openAnswered hh _
  split
  · exact answer_eq_openAnswered hh _
  split
  · exact answer_eq_openAnswered (s := Effect.pushed s.fold c wraps .control) (by exact hfctl ▸ hh) _
  · exact answer_eq_openAnswered (s := Effect.pushed s c wraps .control) hh _

/-- The decision leaves the table and the wait list. -/
theorem openDecided_leaves (s : State) (c : Serial) (wraps : Bool) :
    (Effect.openDecided s c wraps).up = s.up ∧ (Effect.openDecided s c wraps).cap.waitList = s.cap.waitList ∧
      (Effect.openDecided s c wraps).rstN = s.rstN := by
  obtain ⟨-, -, hcap⟩ := fold_leaves s
  have hr := (fold_keeps s).rstN
  unfold Effect.openDecided
  repeat' split
  · exact ⟨rfl, rfl, rfl⟩
  · exact ⟨rfl, rfl, rfl⟩
  · have hwait : s.fold.cap.waitList = s.cap.waitList := congrArg CaptureUnit.waitList hcap
    exact ⟨fold_up s, hwait, hr⟩
  · exact ⟨rfl, rfl, rfl⟩

/-- With a table in order and no write on the wait list, a release is that of the statements (R34). -/
theorem release_of_tableOk (ok : TableOk s.up) (hw : s.cap.waitList = []) (cause : HoldCause) :
    s.release cause = Effect.released s cause := by
  refine release_eq_released cause ok.tags (fun e _ _ k hk => ?_) ?_
  · rw [hw] at hk
    cases hk
  · exact (List.pairwise_map.1 ok.ages).imp fun h _ => h.le

/-- With no entry held there is none to release. -/
theorem release_of_heldBy_nil {cause : HoldCause} (h : s.heldBy cause = []) : s.release cause = s := by
  rw [State.release, h]
  rfl

/-- Settles O25: the decision is that of the statements, and the release that follows finds the table as it was. -/
theorem barrierCompletionDecidesTheOpen : Obligations.BarrierCompletionDecidesTheOpen := by
  intro n c wraps s hr hb hh htable hw hdepth hchosen
  obtain ⟨hup, hwait, hr'⟩ := openDecided_leaves s c wraps
  have hcomplete : s.completeBarrier = Effect.released (Effect.openDecided s c wraps) .barrier := by
    unfold State.completeBarrier
    rw [decideOpen_eq_openDecided hh hdepth (chooseSerial_of_chosen hchosen)]
    exact release_of_tableOk (hup ▸ tableOk_iff.1 htable) (hwait.trans hw) _
  refine gives_of_settle (hcomplete ▸ congrArg Host.Outcome.next (if_pos ?_)) (hr'.trans hr)
  rw [hr, hb]
  rfl

/-! ### OPEN with an empty barrier set -/

/-- A barrier completes where nothing else is due, and leaves turns and acceptances undone nowhere: the event is that of the
state it leaves. -/
theorem settle_of_completed (hr : s.rstN = true) (hcalm : s.upstreamCalm = true) (hb : s.frames.barrier = some [])
    (hu : s.completeBarrier = u) (hup : u.up = s.up) (hbarrier : u.frames.barrier = none) : s.settle = u.settle := by
  obtain ⟨hturns, hnothing, -⟩ := upstreamCalm_iff.1 hcalm
  have hr' : u.rstN = true := hu ▸ (completeBarrier_keeps s).rstN.trans hr
  have hturns' : u.turnsSettled = true := turnsSettled_iff.2 (hup ▸ turnsSettled_iff.1 hturns)
  have hnothing' : u.nothingToAccept = true := nothingToAccept_iff.2 (hup ▸ nothingToAccept_iff.1 hnothing)
  have hdone : s.barrierIfDone = u := by
    rw [← hu]
    simp [State.barrierIfDone, hb]
  have hnone : u.grantCaptures.frames.barrier = none := (grantCaptures_engineLeft u).barrier hbarrier
  simp only [State.settle, hr, hr', if_true]
  rw [early_of_upstreamCalm hcalm, hdone, wake_of_turnsSettled hturns', acceptPresented_of_nothing hnothing',
    barrierIfDone_of_ne (s := u.grantCaptures) (by simp [hnone]), (grantCaptures_done u).grantCaptures_eq]

/-- Settles O23: the barrier completes at the event that takes the OPEN, with a choice that is made within sixteen
candidates. -/
theorem openPushesAFrame : Obligations.OpenPushesAFrame := by
  intro s hr hc hh hm hp hcalm hheld hundecided hdepth
  refine ⟨fun hserials => ?_, fun n c wraps hchosen => ⟨chosen_ne_zero hchosen, fun hsweep => ?_⟩⟩
  · have hused : s.frames.usedSerials.length ≤ 15 := by
      rw [FrameStack.usedSerials, List.length_append, List.length_map]
      omega
    obtain ⟨n, hn, hchosen⟩ := exists_chosen (s := s) (by omega)
    exact ⟨n, by omega, _, _, hchosen⟩
  obtain ⟨b, hb⟩ : ∃ b, b = (s.takeRequest .openFrame).beginBarrier := ⟨_, rfl⟩
  have hempty : b.frames.barrier = some [] := by
    have hset : s.up.txns.filter Txn.undecided = [] := List.filter_eq_nil_iff.2 fun e he => by simp [hundecided e he]
    rw [hb]
    exact congrArg (fun l : List Txn => some (l.map Txn.tag)) hset
  have hfull : ¬s.frames.stack.length = 8 := by omega
  have hwraps : ¬(wraps = true ∧ s.cap.sweep.inFlight = true) := fun ⟨hw, hs⟩ => by simp [hsweep hw] at hs
  have hdecided : Effect.openDecided b c wraps =
      { Effect.ctlAnswered (Effect.pushed s c wraps .control) .openFrame .done with frames.barrier := none } := by
    rw [hb]
    exact (if_neg fun h => hfull h.1).trans ((if_neg hwraps).trans (if_neg hfull))
  have hcomplete : b.completeBarrier = Effect.openDecided b c wraps := by
    have hchoice : b.chooseSerial = (c, wraps) :=
      (chooseSerial_congr (hb ▸ rfl) (hb ▸ rfl) (hb ▸ rfl)).trans (chooseSerial_of_chosen hchosen)
    unfold State.completeBarrier
    rw [decideOpen_eq_openDecided (hb ▸ rfl) (by rw [hb]; exact hdepth.le) hchoice]
    refine release_of_heldBy_nil ?_
    rw [State.heldBy, (openDecided_leaves b c wraps).1, hb]
    exact hheld
  have hexec := exec_open hr hc hh hm
  rw [dealOpen_of_idle (s := s.takeRequest .openFrame) hp, ← hb,
    settle_of_completed (s := b) (hb ▸ hr) (hb ▸ hcalm) hempty (hcomplete.trans hdecided) (hb ▸ rfl) rfl] at hexec
  exact gives_of_settle hexec hr

end Sys2Proof.FramePath
end

/-! ## The completion of a rollback (R9, R34, R98, R99, R113, R124) -/

section
namespace Sys2Proof.FramePath

open Sys2Proof Sys2Proof.Machine Sys2Proof.AccessPath Sys2Proof.UndoLog

variable {s t : State} {c : Serial} {wraps : Bool} {f : Frame} {above below : List Frame}

/-! ### The frames go (R98) -/

/-- The control request is answered as it is owed (R99). -/
theorem giveOwed_eq (s : State) (p : Bool) :
    s.giveOwed p =
      { s with
        ctl :=
          if s.engine.owed = .none then s.ctl
          else s.ctl.answer (if s.engine.owed = .noFrame then .noFrame else if p then .partialDone else .done) } := by
  unfold State.giveOwed
  split
  · rename_i h
    rw [h]
    rfl
  · rename_i h
    rw [h]
    rfl
  · rename_i h
    rw [h]
    rfl

/-- The frames above the target go, and with the last frame the records. -/
theorem popFrames_eq (ht : s.engine.target = some below.length) (h : s.frames.stack = below ++ f :: above) :
    s.popFrames =
      { s with
        frames.stack := below
        log.tail := if below.isEmpty then s.log.head else s.log.tail
        log.staging :=
          if below.isEmpty then s.log.staging.filter (fun e => !seqBelow e.seq s.log.head) else s.log.staging
        log.writer := if below.isEmpty then s.log.writer.map (Effect.orphanedBelow s) else s.log.writer
        log.hold :=
          if below.isEmpty ∧ 0 < s.win.capacity then { running := false, value := 0 } else s.log.hold
        link := s.link.post
          { body := .rollbackDone ((f :: above).any fun g => g.status == .broken) (above.length + 1) s.engine.applied
            stamp := s.flt.ticks, depth := below.length, serial := f.serial } } := by
  have htarget : s.targetDepth = below.length := by rw [State.targetDepth, ht]; rfl
  have hpopped : s.popped = f :: above := by rw [State.popped, htarget, h, List.drop_left]
  have htake : s.frames.stack.take s.targetDepth = below := by rw [htarget, h, List.take_left]
  unfold State.popFrames
  rw [hpopped, htake]
  dsimp only
  cases below with
  | nil =>
    have hhold : (if ([] : List Frame).isEmpty ∧ 0 < s.win.capacity then timerStopped else s.log.hold) =
        if 0 < s.win.capacity then timerStopped else s.log.hold := by simp
    have hreclaim : ((if State.depth { s with frames.stack := [] } = 0 then
        State.reclaim { s with frames.stack := [] } s.log.head else { s with frames.stack := [] }) : State) = _ :=
      (if_pos rfl).trans (reclaim_head { s with frames.stack := [] })
    rw [hreclaim]
    refine state_ext rfl rfl rfl rfl ?_ rfl rfl rfl rfl rfl rfl rfl rfl rfl rfl
    exact congrArg (fun hold => ({ s.log with
      tail := s.log.head
      staging := s.log.staging.filter fun e => !seqBelow e.seq s.log.head
      writer := s.log.writer.map (Effect.orphanedBelow s)
      hold := hold } : LogUnit)) hhold.symm
  | cons b below =>
    have hhold : (if (b :: below).isEmpty ∧ 0 < s.win.capacity then timerStopped else s.log.hold) = s.log.hold := by simp
    have hkept : ((if State.depth { s with frames.stack := b :: below } = 0 then
        State.reclaim { s with frames.stack := b :: below } s.log.head else { s with frames.stack := b :: below }) : State) = _ :=
      if_neg (Nat.succ_ne_zero _)
    rw [hkept]
    refine state_ext rfl rfl rfl rfl ?_ rfl rfl rfl rfl rfl rfl rfl rfl rfl rfl
    exact congrArg (fun hold => ({ s.log with hold := hold } : LogUnit)) hhold.symm

/-- The rollback's own part of its completion: the frames go, the answer owed is given, the deadline counter is loaded where
frames remain, and the engine returns to IDLE. -/
theorem completed_eq (ht : s.engine.target = some below.length) (h : s.frames.stack = below ++ f :: above) :
    Effect.completed s below f above =
      { (s.popFrames.giveOwed ((f :: above).any fun g => g.status == .broken)).reloadIfFrames with engine := engineIdle } := by
  rw [giveOwed_eq, popFrames_eq ht h]
  unfold State.reloadIfFrames
  cases below with
  | nil => rfl
  | cons b below => rfl

/-- The part that a reservation takes is not that of the deadline counter and the engine, which comes after it in the
model. -/
theorem reservationTaken_eq (hreserved : s.ctl.reserved = true) (hchoice : s.chooseSerial = (c, wraps)) :
    Effect.reservationTaken { s.reloadIfFrames with engine := engineIdle } c wraps =
      { s.takeReservation.reloadIfFrames with engine := engineIdle } := by
  have htake : s.takeReservation = Effect.reservationTaken s c wraps := by
    unfold State.takeReservation Effect.reservationTaken
    rw [if_pos hreserved, hchoice]
    dsimp only
    rw [push_eq_pushed]
    exact if_congr (by simp) rfl rfl
  rw [htake]
  unfold Effect.reservationTaken
  have hsweep : s.reloadIfFrames.cap.sweep = s.cap.sweep := by unfold State.reloadIfFrames; split <;> rfl
  dsimp only
  rw [hsweep]
  split
  · unfold State.reloadIfFrames
    have hdepth : State.depth (Effect.posted { s with ctl.reserved := false } (.reservationCancelled .sweep) 0#16) = s.depth := rfl
    rw [hdepth]
    split <;> rfl
  · have hdepth : State.depth (Effect.posted (Effect.pushed { s with ctl.reserved := false } c wraps .reserved)
        .reservationTaken c) ≠ 0 := by simp [State.depth, Effect.posted, Effect.pushed]
    rw [State.reloadIfFrames, State.reloadIfFrames, if_neg hdepth]
    split <;> rfl

/-- A release commutes with the loading of the deadline counter and the return to IDLE. -/
theorem released_reload (s : State) (cause : HoldCause) :
    Effect.released { s.reloadIfFrames with engine := engineIdle } cause =
      { (Effect.released s cause).reloadIfFrames with engine := engineIdle } := by
  have hdepth : (Effect.released s cause).depth = s.depth := rfl
  unfold State.reloadIfFrames
  rw [hdepth]
  split <;> rfl

theorem exec_rollbackCompletion (hr : s.rstN = true) (hp : s.engine.phase = .unwind) (hh : s.engine.hand = none)
    (hstop : s.atStop = true) : exec .rollbackCompletion s = .next s.completeRollback.settle :=
  congrArg Host.Outcome.next (if_pos (by simp [hr, State.betweenSteps, hp, hh, hstop]))

theorem takeReservation_waitList (s : State) : s.takeReservation.cap.waitList = s.cap.waitList := by
  unfold State.takeReservation
  split
  · dsimp only
    split
    · rfl
    · rw [push_eq_pushed]
      rfl
  · rfl

/-- The completion is a release, after the reservation, of what the rollback's own part leaves. -/
theorem completeRollback_eq {w : State} (hw : w = s.popFrames.giveOwed (s.popped.any (·.status == .broken)))
    (htable : TableOk s.up) (hwait : w.takeReservation.cap.waitList = []) :
    s.completeRollback =
      Effect.released { w.takeReservation.reloadIfFrames with engine := engineIdle } .rollback := by
  have hup : w.takeReservation.up = s.up := by
    rw [takeReservation_up, hw, giveOwed_up, popFrames_up]
  rw [released_reload, ← release_of_tableOk (hup ▸ htable) hwait, hw]
  rfl

/-- Settles O58: the statements' order of the parts gives what the model's order gives, and the serial is chosen alike. -/
theorem completionPopsTheFrames : Obligations.CompletionPopsTheFrames := by
  intro f above below s hr hp hh ht h hstop htable hw v
  have hexec := exec_rollbackCompletion hr hp hh hstop
  have hr' : s.completeRollback.rstN = true := (completeRollback_keeps s).rstN.trans hr
  have hpopped : s.popped = f :: above := by
    rw [State.popped, State.targetDepth, ht]
    exact (congrArg _ h).trans (List.drop_left ..)
  obtain ⟨w, hweq⟩ : ∃ w, w = s.popFrames.giveOwed (s.popped.any (·.status == .broken)) := ⟨_, rfl⟩
  have hv : v = { w.reloadIfFrames with engine := engineIdle } := by
    rw [hweq, hpopped]
    exact completed_eq ht h
  obtain ⟨hcap, hreserved⟩ : w.cap = s.cap ∧ w.ctl.reserved = s.ctl.reserved := by
    rw [hweq, giveOwed_eq, popFrames_eq ht h]
    refine ⟨rfl, ?_⟩
    dsimp only
    split
    · rfl
    · exact ctlAnswer_reserved ..
  have hcomplete (hwait : w.takeReservation.cap.waitList = []) := completeRollback_eq hweq (tableOk_iff.1 htable) hwait
  refine ⟨fun hnone => ?_, fun htaken n c wraps hchosen => ?_⟩
  · have htake : w.takeReservation = w := if_neg (by simp [hreserved, hnone])
    rw [hcomplete (by rw [htake, hcap, hw]), htake, ← hv] at hexec hr'
    exact gives_of_settle hexec hr'
  · have hreload : w.reloadIfFrames.frames = w.frames := by unfold State.reloadIfFrames; split <;> rfl
    have hframes : v.frames = w.frames := (congrArg State.frames hv).trans hreload
    have hchoice : w.chooseSerial = (c, wraps) :=
      (chooseSerial_congr (by rw [hframes]) (by rw [hframes]) (by rw [hframes])).trans (chooseSerial_of_chosen hchosen)
    have hwait : w.takeReservation.cap.waitList = [] := by
      rw [takeReservation_waitList, hcap, hw]
    rw [hcomplete hwait, ← reservationTaken_eq (hreserved.trans htaken) hchoice, ← hv] at hexec hr'
    exact gives_of_settle hexec hr'

end Sys2Proof.FramePath
end

/-! ## The expiry of the hold time (R15, R43, R48, R78, R123) -/

section
namespace Sys2Proof.FaultPath

open Sys2Proof Sys2Proof.Machine Sys2Proof.AccessPath Sys2Proof.UndoLog Sys2Proof.FramePath

variable {s t b w : State} {k : Tag} {cause : BreakCause}

/-! ### The rounds of the grants -/

theorem waitListInTable_iff_singleton (h : s.cap.waitList = [k]) :
    WaitListInTable s ↔ k ∈ s.up.txns.map Txn.tag := by
  simp [WaitListInTable, h]

/-- A grant uses one round up. -/
theorem grantOldest_uses_round (hw : WaitListInTable s) (hne : s.cap.waitList ≠ []) (hask : s.canAsk = true) :
    WaitListInTable s.grantOldest ∧
      s.grantOldest.cap.waitList.length + intactFrames s.grantOldest + 1 = s.cap.waitList.length + intactFrames s := by
  obtain ⟨-, -, -, hslots, -⟩ := canAsk_iff.1 hask
  have hlist := grantOldest_waitList hw hslots
  have hstack : intactFrames s.grantOldest = intactFrames s := by
    unfold State.grantOldest
    split
    · rfl
    · split <;> rfl
  have hlen := List.length_pos_iff.2 hne
  refine ⟨fun t ht => ?_, ?_⟩
  · rw [grantOldest_up]
    exact hw t (List.mem_of_mem_tail (hlist ▸ ht))
  · rw [hlist, hstack, List.length_tail]
    omega

/-- A break under an INTACT top uses one round up. -/
theorem breakLowest_uses_round (hw : WaitListInTable s) (hask : s.canAsk = true) (cause : BreakCause) :
    WaitListInTable (s.breakLowest cause) ∧
      (s.breakLowest cause).cap.waitList.length + intactFrames (s.breakLowest cause) <
        s.cap.waitList.length + intactFrames s := by
  obtain ⟨-, -, htop, -, -⟩ := canAsk_iff.1 hask
  obtain ⟨hless, hsub⟩ := breakLowest_breaks s cause (intactFrames_pos htop)
  have hlen := hsub.length_le
  refine ⟨fun t ht => ?_, by omega⟩
  rw [(breakLowest_moves s cause).sameEntries.tags_eq]
  exact hw t (hsub.subset ht)

/-- Rounds beyond one for each waiting write and each INTACT frame, and one more, change nothing, whether or not the hold time
has expired. -/
theorem grantLoop_rounds {n m : Nat} {expired : Bool} (hw : WaitListInTable s)
    (hn : s.cap.waitList.length + intactFrames s < n) (hm : s.cap.waitList.length + intactFrames s < m) :
    State.grantLoop n expired s = State.grantLoop m expired s := by
  induction n generalizing m expired s with
  | zero => omega
  | succ n ih =>
    obtain ⟨m, rfl⟩ : ∃ l, m = l + 1 := ⟨m - 1, by omega⟩
    unfold State.grantLoop
    by_cases hnone : (s.cap.waitList.isEmpty || !s.canAsk) = true
    · rw [if_pos hnone, if_pos hnone]
    rw [if_neg hnone, if_neg hnone]
    obtain ⟨hne, hask⟩ : s.cap.waitList ≠ [] ∧ s.canAsk = true := by simpa using hnone
    have hbreak (cause : BreakCause) (x : Bool) :
        State.grantLoop n x (s.breakLowest cause) = State.grantLoop m x (s.breakLowest cause) := by
      obtain ⟨hw', hless⟩ := breakLowest_uses_round hw hask cause
      exact ih hw' (by omega) (by omega)
    obtain ⟨hw', hless⟩ := grantOldest_uses_round hw hne hask
    rw [ih (m := m) hw' (by omega) (by omega), hbreak, hbreak]

/-! ### The break of the expiry -/

/-- A break leaves a stopped hold timer stopped. -/
theorem breakLowest_hold (h : s.log.hold = timerStopped) : (s.breakLowest cause).log.hold = timerStopped := by
  have hreclaim (s : State) (q : Seq) (hs : s.log.hold = timerStopped) : (s.reclaim q).log.hold = timerStopped := by
    rw [reclaim_eq]
    dsimp only
    split
    · rfl
    · exact hs
  unfold State.breakLowest
  split
  · exact h
  rename_i f above _
  dsimp only
  have hbroken (stack : List Frame) (q : Seq) :
      ((({ s with frames.stack := stack } : State).reclaim q).post (.frameBroken cause) f.serial).log.hold = timerStopped :=
    hreclaim _ q h
  split
  · obtain ⟨-, -, hlog | hlog⟩ := rejudge_leaves (State.post _ (.frameBroken cause) f.serial)
    · rw [hlog]
      exact hbroken _ _
    · rw [hlog]
  · exact hbroken _ _

theorem expireHold_eq (s : State) :
    s.expireHold = State.grantLoop (Effect.holdBroken s).grantRounds true (Effect.holdBroken s) := rfl

theorem holdBroken_waitListInTable (hfound : (s.findTxn k).isSome = true)
    (hb : (Effect.holdBroken s).cap.waitList = [k]) : WaitListInTable (Effect.holdBroken s) := by
  obtain ⟨e, he⟩ := Option.isSome_iff_exists.1 hfound
  rw [waitListInTable_iff_singleton hb, Effect.holdBroken, (breakLowest_moves _ _).sameEntries.tags_eq]
  obtain ⟨hmem, htag⟩ := findTxn_mem he
  exact List.mem_map.2 ⟨e, hmem, htag⟩

/-- No write waits, or the one that waits cannot ask: nothing more is broken. -/
theorem expireHold_of_ended (h : (Effect.holdBroken s).cap.waitList = [] ∨ (Effect.holdBroken s).canAsk = false) :
    s.expireHold = Effect.holdBroken s := by
  rw [expireHold_eq, State.grantRounds, State.grantLoop]
  refine if_pos ?_
  rcases h with h | h
  · simp [h]
  · simp [h]

/-- The log has space: the write that waits alone is granted. -/
theorem expireHold_of_space (hfound : (s.findTxn k).isSome = true) (hb : (Effect.holdBroken s).cap.waitList = [k])
    (hask : (Effect.holdBroken s).canAsk = true)
    (hspace : (Effect.holdBroken s).logCount < (Effect.holdBroken s).win.capacity) :
    s.expireHold = (Effect.holdBroken s).grantOldest := by
  obtain ⟨-, -, -, hslots, -⟩ := canAsk_iff.1 hask
  have hnil : (Effect.holdBroken s).grantOldest.cap.waitList = [] := by
    rw [grantOldest_waitList (holdBroken_waitListInTable hfound hb) hslots, hb]
    rfl
  rw [expireHold_eq, State.grantRounds, State.grantLoop, if_neg (by simp [hb, hask]), if_pos hspace,
    CaptureDue.grantLoop_of_waitList_nil hnil]

/-- The log has no space: the expiry is that of the state which the break left. -/
theorem expireHold_of_full (hfound : (s.findTxn k).isSome = true) (hb : (Effect.holdBroken s).cap.waitList = [k])
    (hask : (Effect.holdBroken s).canAsk = true)
    (hfull : (Effect.holdBroken s).win.capacity ≤ (Effect.holdBroken s).logCount) (h : TickTimer) :
    s.expireHold = State.expireHold { Effect.holdBroken s with log.hold := h } := by
  obtain ⟨b, hbeq⟩ : ∃ b, b = Effect.holdBroken s := ⟨_, rfl⟩
  have hw : WaitListInTable b := hbeq ▸ holdBroken_waitListInTable hfound hb
  rw [expireHold_eq s]
  rw [← hbeq] at hb hask hfull ⊢
  have hstopped : b.log.hold = timerStopped := hbeq ▸ breakLowest_hold rfl
  have hagain : Effect.holdBroken { b with log.hold := h } = b.breakLowest .holdExpired := by
    unfold Effect.holdBroken
    show State.breakLowest { b with log.hold := timerStopped } .holdExpired = _
    rw [← hstopped]
  obtain ⟨hw', hless⟩ := breakLowest_uses_round hw hask .holdExpired
  have hdepth : intactFrames b ≤ b.depth := List.countP_le_length
  have hdepth' : intactFrames (b.breakLowest .holdExpired) ≤ (b.breakLowest .holdExpired).depth := List.countP_le_length
  rw [expireHold_eq, hagain, State.grantRounds, State.grantLoop, if_neg (by simp [hb, hask]),
    if_neg (Nat.not_lt.2 hfull), if_pos rfl]
  refine grantLoop_rounds hw' (by omega) ?_
  unfold State.grantRounds
  omega

/-- What comes of an expiry, by what follows from the state that it leaves, and by what is said of the expiry in the state that
the first break left. -/
theorem holdExpires_of_expireHold {follows again : State → Prop} (hfound : (s.findTxn k).isSome = true)
    (hfollows : ∀ u, s.expireHold = u → follows u)
    (hagain : s.expireHold = State.expireHold { Effect.holdBroken s with log.hold := s.log.hold } →
      again { Effect.holdBroken s with log.hold := s.log.hold }) : Effect.HoldExpires k s follows again := by
  have hwin : (Effect.holdBroken s).win = s.win := (breakLowest_keeps _ _).win
  refine ⟨fun hended => hfollows _ (expireHold_of_ended hended), fun hb hask hspace => hfollows _ ?_,
    fun hb hask hfull => hagain ?_⟩
  · exact expireHold_of_space hfound hb hask (hwin ▸ hspace)
  · exact expireHold_of_full hfound hb hask (hwin ▸ hfull) _

/-! ### The two events -/

theorem flt_eta {f : FaultUnit} {p n : Nat} (hp : f.pulses = p) (hn : f.ticks = n) :
    { f with pulses := p, ticks := n } = f := by
  rw [← hp, ← hn]

theorem exec_holdExpired (hr : s.rstN = true) (hrun : s.log.hold.running = true)
    (hlimit : s.mode.holdLimit ≤ s.log.hold.value) : exec .holdExpired s = .next s.expireHold.settle :=
  congrArg Host.Outcome.next (if_pos (by simp [State.holdDue, hr, hrun, hlimit]))

/-- The tick that brings the hold timer to its limit expires it. -/
theorem tickHold_of_limit (hrun : s.log.hold.running = true) (h : s.mode.holdLimit = s.log.hold.value + 1) :
    s.tickHold = s.expireHold := by
  unfold State.tickHold
  rw [if_pos hrun]
  exact if_pos h.le

/-- A pulse that makes a tick which expires the hold timer. -/
theorem exec_trefPulse_of_limit (hr : s.rstN = true) (hrun : s.log.hold.running = true)
    (htick : s.flt.divisor = s.flt.pulses + 1) (h : s.mode.holdLimit = s.log.hold.value + 1) :
    exec .trefPulse s = .next
      (State.expireHold { s with flt.pulses := 0, flt.ticks := s.flt.ticks + 1 }).tickDeadline.settle := by
  rw [exec_trefPulse hr, countPulse_of_eq htick,
    tickHold_of_limit (s := { s with flt.pulses := 0, flt.ticks := s.flt.ticks + 1 }) hrun h]

/-- Settles O37: the expiry grants or breaks by rounds, and the rounds after a break that frees no space are those of a new
expiry. -/
theorem holdExpiryBreaksAndGrants : Obligations.HoldExpiryBreaksAndGrants := by
  intro k s hr hrun hwait hfound
  refine ⟨fun hlimit => ?_, fun htick hlimit => ?_⟩
  · have hexec := exec_holdExpired hr hrun hlimit
    refine holdExpires_of_expireHold hfound (fun u hu => ?_) fun hagain => ?_
    · exact gives_of_settle (hu ▸ hexec) (hu ▸ (expireHold_keeps s).rstN.trans hr)
    · have hkeeps := breakLowest_keeps s.stopHold .holdExpired
      have hdue := exec_holdExpired (s := { Effect.holdBroken s with log.hold := s.log.hold }) (hkeeps.rstN.trans hr) hrun
        (hkeeps.mode ▸ hlimit)
      rw [hexec, hagain, hdue]
  · have hexec := exec_trefPulse_of_limit hr hrun htick hlimit
    obtain ⟨v, hv⟩ : ∃ v : State, v = { s with flt.pulses := 0, flt.ticks := s.flt.ticks + 1 } := ⟨_, rfl⟩
    rw [← hv] at hexec ⊢
    have hkeeps : SettleKeeps v (Effect.holdBroken v) :=
      (stopHold_keeps v).trans (breakLowest_keeps v.stopHold .holdExpired)
    refine holdExpires_of_expireHold (hv ▸ hfound) (fun w hw => ?_) fun hagain => ?_
    · have hr' : w.rstN = true := hw ▸ (expireHold_keeps v).rstN.trans (hv ▸ hr)
      rw [hw] at hexec
      refine ⟨fun hstop => ?_, fun n hcounts hvalue => ?_, fun hcounts hvalue => ?_⟩
      · exact gives_of_settle (tickDeadline_of_stopped hstop ▸ hexec) hr'
      · exact gives_of_settle (tickDeadline_of_succ hcounts hvalue ▸ hexec) hr'
      · rw [hexec, tickDeadline_of_one hcounts hvalue]
        have hdue : State.deadlineDue { w with flt.deadline.value := 0 } = true := by
          simp [State.deadlineDue, hr', hcounts]
        exact (congrArg Host.Outcome.next (if_pos hdue)).symm
    · obtain ⟨b, hb⟩ : ∃ b, b = Effect.holdBroken v := ⟨_, rfl⟩
      rw [← hb] at hagain hkeeps ⊢
      have hflt : { b.flt with pulses := 0, ticks := s.flt.ticks + 1 } = b.flt :=
        flt_eta (hkeeps.pulses.trans (hv ▸ rfl)) (hkeeps.ticks.trans (hv ▸ rfl))
      have hdivisor : b.flt.divisor = s.flt.divisor := hkeeps.divisor.trans (hv ▸ rfl)
      have hmode : b.mode = s.mode := hkeeps.mode.trans (hv ▸ rfl)
      have hhold : v.log.hold = s.log.hold := hv ▸ rfl
      have hnext := exec_trefPulse_of_limit
        (s := { b with log.hold := v.log.hold, flt.pulses := s.flt.pulses, flt.ticks := s.flt.ticks })
        (hkeeps.rstN.trans (hv ▸ hr)) (hhold ▸ hrun) (hdivisor.trans htick)
        ((congrArg ModeController.holdLimit hmode).trans (hhold ▸ hlimit))
      have hsame : ({ b with log.hold := v.log.hold, flt := { b.flt with pulses := 0, ticks := s.flt.ticks + 1 } } : State) =
          { b with log.hold := v.log.hold } := by rw [hflt]
      rw [hexec, hagain, ← hsame]
      exact hnext.symm

end Sys2Proof.FaultPath
end
